-- ==== Sys2Proof/Word.lean ====
section
/-! DEFINITION. The widths of the Disarm A64 decode unit (spec/00_scope.md R6): the 32-bit instruction word, the
byte of the input buffer, the 64-bit virtual address and the 64-bit signed immediate of a record. -/

namespace Sys2Proof

/-- An A64 instruction word `I` (R6, R110: 32 bits, fixed). -/
abbrev Word := BitVec 32

/-- One byte of the input buffer `B` (R80). -/
abbrev Byte := BitVec 8

/-- A virtual address: 64 bits, unsigned (R6, R84). -/
abbrev Addr := BitVec 64

/-- An immediate or offset of a record: 64 bits, signed, in two's complement (R6, R40); `BitVec.toInt` reads its
signed value. -/
abbrev Imm := BitVec 64

/-- A register index of an instruction word: 5 bits, 0..31 (R6). -/
abbrev RegIx := BitVec 5

end Sys2Proof
end

