-- ==== Sys2Proof/Machine/Record.lean ====
section
/-! DEFINITION. Register identities and the Instruction record (spec/10_state.md R31–R47), the result sums of the
router and of the full decode (R31, 40_dispatch.md R177), and the errors the sequencer surfaces
(60_exceptions.md R400–R404). Every type here is plain data. -/

namespace Sys2Proof.Machine

/-- The register families of the register-family decoder (R32). No rule of this unit emits `SP` (R34). -/
inductive Family where
  | W | X | B | H | S | D | V | SP
deriving DecidableEq, Repr, Inhabited

/-- A register identity `Reg(f, n)`, or `NONE` (R32): a name written into a record, never storage (R30). -/
inductive RegId where
  | none
  | reg (f : Family) (n : RegIx)
deriving DecidableEq, Repr, Inhabited

/-- The operand kinds (R42). `collab k` stands for the further kinds only collaborators use: the one whose code on the
output bus is `8 + k` (log entry 9). -/
inductive OpKind where
  | none | register | immediate | memory | floatImmediate | shiftedImmediate | condition | pageRelative
  | collab (k : Nat)
deriving DecidableEq, Repr, Inhabited

/-- The addressing mode of a record (R43). -/
inductive MemMode where
  | offset | preIndex | postIndex
deriving DecidableEq, Repr, Inhabited

/-- The mnemonics this unit produces or names (R44). `collab k` is the collaborators' mnemonic of code `64 + k`. -/
inductive Mnemonic where
  | invalid | unimplemented
  | str | ldr | strb | ldrb | strh | ldrh | ldrsb | ldrsh | ldrsw
  | stur | ldur | sturb | sturh | ldurb | ldurh | ldursb | ldursh | ldursw
  | stp | ldp | stgp | ldpsw
  | prfm | prfum
  | collab (k : Nat)
deriving DecidableEq, Repr, Inhabited

/-- The type of `mem_extend_type` (R45): `NONE`, or `EXT(c)` for the 3-bit extend code `c`. -/
inductive Ext where
  | none
  | ext (c : BitVec 3)
deriving DecidableEq, Repr, Inhabited

/-- The type of `mem_shift_type` (R45). -/
inductive Shift where
  | none | lsl | lsr | asr | ror
deriving DecidableEq, Repr, Inhabited

/-- The Undefined reasons (R401), and a collaborator's own reason, named by a number it chooses (log entry 9). -/
inductive UndefReason where
  | reservedGroup | unallocatedType | simdLsStruct | pairOpc11
  | lsUimmCell | lsRegoffCell | lsUnscaledCell | lsIndexedCell
  | collab (k : Nat)
deriving DecidableEq, Repr, Inhabited

/-- The Unimplemented kinds (R402), and a collaborator's own kind (R418), named by a number it chooses (log entry 9). -/
inductive UnimplKind where
  | sme | memoryTags | exclusivePair | exclOrderedCas | ldaprLiteralMemcpy | noallocPair
  | atomic | pac | unprivileged | prfm | prfum
  | collab (k : Nat)
deriving DecidableEq, Repr, Inhabited

/-- A value of `mnemonic_category` other than `None` (R47). -/
inductive Category where
  | loadStore
  | unimpl (k : UnimplKind)
  | collab (k : Nat)
deriving DecidableEq, Repr, Inhabited

/-- The Instruction record (R40), each field at its identity value by default; only `mnemonic` has none there. -/
structure Record where
  mnemonic : Mnemonic
  category : Option Category := Option.none
  op0Kind : OpKind := .none
  op1Kind : OpKind := .none
  op2Kind : OpKind := .none
  op3Kind : OpKind := .none
  op0Reg : RegId := .none
  op1Reg : RegId := .none
  op2Reg : RegId := .none
  op0Imm : Imm := 0
  op1Imm : Imm := 0
  op2Imm : Imm := 0
  memBase : RegId := .none
  memAddendReg : RegId := .none
  memOffset : Imm := 0
  memIsPreIndexed : Bool := false
  memMode : MemMode := .offset
  memExtendType : Ext := .none
  memShiftType : Shift := .none
  /-- `mem_extend_or_shift_amount`: unsigned, 0..4. -/
  memAmount : Fin 5 := 0
  address : Addr := 0
deriving DecidableEq, Repr, Inhabited

/-- `EMPTY`, the all-identity record (R41): its mnemonic is `INVALID`. -/
def Record.empty : Record := { mnemonic := .invalid }

/-- The record with `mem_is_pre_indexed = (mem_mode = PreIndex)`, which R43 says of EVERY record; applied to the
records that the collaborators and the alias remapper hand back (log entry 5). -/
def Record.withPreIndexLaw (r : Record) : Record :=
  { r with memIsPreIndexed := decide (r.memMode = .preIndex) }

/-- The delegate units, the external decoders a word is routed to (R31). -/
inductive DelegateUnit where
  | sve | dpi | bes | dpr | simd | simdLsSingle | simdLsSinglePost
deriving DecidableEq, Repr, Inhabited

/-- The decode core's output port `RouterOut` (R31). -/
inductive RouterOut where
  | ok (r : Record)
  | undefined (reason : UndefReason)
  | unimplemented (kind : UnimplKind)
  | delegate (u : DelegateUnit)
deriving DecidableEq, Repr, Inhabited

/-- The result of a collaborator and of `DecodeFull` (R177). Only a collaborator answers `unexpected`; the value it
chooses is opaque (R404) and is carried as a number (log entry 9). -/
inductive DecodeResult where
  | ok (r : Record)
  | undefined (reason : UndefReason)
  | unimplemented (kind : UnimplKind)
  | unexpected (e : Nat)
deriving DecidableEq, Repr, Inhabited

/-- A surfaced error with its context (R403, R404, R406–R408). -/
inductive CallError where
  | structural (length : Nat)
  | undefined (word : Word) (offset : Nat) (reason : UndefReason)
  | unimplemented (word : Word) (offset : Nat) (category : Option Category)
  | unexpected (word : Word) (offset : Nat) (va : Addr) (inner : Nat)
deriving DecidableEq, Repr, Inhabited

end Sys2Proof.Machine
end

