-- ==== Sys2Proof/Config.lean ====
section
/-! DEFINITION. What the spec leaves OPEN as a named parameter of the model (spec/00_scope.md R6): an uninterpreted
constant each, with no body, so that a claim about the model holds for every value of it. -/

namespace Sys2Proof

/-- The two values the OPEN parameter `EXT_S1_AMOUNT` may take (R6, 92_eei_decisions.md D12). -/
inductive ExtS1Amount where
  | sizeDerived | zero
deriving DecidableEq, Repr, Inhabited

/-- `EXT_S1_AMOUNT`: what amount an EXTENDED register offset with `S = 1` carries (R121). Log entry 1. -/
opaque Config.extS1Amount : ExtS1Amount

/-- `Collab(u)`: the pure decode function of each delegate unit (R177, D23). Log entry 2. -/
opaque Config.collab : Machine.DelegateUnit → Word → Machine.DecodeResult

/-- The rewrite of the alias remapper (R409, D22), before the model puts the unchanged `address` back
(`Machine.aliasRemap`). Log entry 3. -/
opaque Config.aliasRewrite : Machine.Record → Machine.Record

end Sys2Proof
end

