-- ==== Sys2Proof/Syntax.lean ====
section
/-! DEFINITION. The instructions of the decode unit as syntax: one constructor per instruction of
spec/opcode_table.json (a mnemonic in one format, with one result and one rule). The rows of the table that differ only
in their `(opc, size, V)` or `(opc, V)` cell, or that are bit-cubes of one router condition (R135), are one constructor:
the cell is an operand, as the format writes it, and a word the router answers without decoding operands is carried
whole (log entry 11). EVERY 32-bit word is one of these (R134, R176). -/

namespace Sys2Proof

/-- A cell `(opc, size, V)` of a mnemonic lookup table (R9), in the document's order. -/
structure Cell where
  opc : BitVec 2
  size : BitVec 2
  v : Bool
deriving DecidableEq, Repr, Inhabited

/-- The instructions. Operands stand in the order of the encoding, most significant field first (R113–R116). -/
inductive Instr where
  -- 41_pairs.md, format of R113
  /-- STP, post-indexed (R201). -/
  | stpPost (opc : BitVec 2) (v : Bool) (imm7 : BitVec 7) (rt2 rn rt : RegIx)
  /-- STP, signed offset (R202). -/
  | stpOffset (opc : BitVec 2) (v : Bool) (imm7 : BitVec 7) (rt2 rn rt : RegIx)
  /-- STP, pre-indexed (R203). -/
  | stpPre (opc : BitVec 2) (v : Bool) (imm7 : BitVec 7) (rt2 rn rt : RegIx)
  /-- LDP, post-indexed (R204). -/
  | ldpPost (opc : BitVec 2) (v : Bool) (imm7 : BitVec 7) (rt2 rn rt : RegIx)
  /-- LDP, signed offset (R205). -/
  | ldpOffset (opc : BitVec 2) (v : Bool) (imm7 : BitVec 7) (rt2 rn rt : RegIx)
  /-- LDP, pre-indexed (R206). -/
  | ldpPre (opc : BitVec 2) (v : Bool) (imm7 : BitVec 7) (rt2 rn rt : RegIx)
  /-- STGP, post-indexed (R207). -/
  | stgpPost (imm7 : BitVec 7) (rt2 rn rt : RegIx)
  /-- STGP, signed offset (R208). -/
  | stgpOffset (imm7 : BitVec 7) (rt2 rn rt : RegIx)
  /-- STGP, pre-indexed (R209). -/
  | stgpPre (imm7 : BitVec 7) (rt2 rn rt : RegIx)
  /-- LDPSW, post-indexed (R210). -/
  | ldpswPost (imm7 : BitVec 7) (rt2 rn rt : RegIx)
  /-- LDPSW, signed offset (R211). -/
  | ldpswOffset (imm7 : BitVec 7) (rt2 rn rt : RegIx)
  /-- LDPSW, pre-indexed (R212). -/
  | ldpswPre (imm7 : BitVec 7) (rt2 rn rt : RegIx)
  -- 42_ls_unsigned_imm.md, format of R114
  /-- STRB, unsigned immediate offset (R231). -/
  | strbUimm (imm12 : BitVec 12) (rn rt : RegIx)
  /-- STRH, unsigned immediate offset (R232). -/
  | strhUimm (imm12 : BitVec 12) (rn rt : RegIx)
  /-- STR, unsigned immediate offset (R233). -/
  | strUimm (c : Cell) (imm12 : BitVec 12) (rn rt : RegIx)
  /-- LDRB, unsigned immediate offset (R234). -/
  | ldrbUimm (imm12 : BitVec 12) (rn rt : RegIx)
  /-- LDRH, unsigned immediate offset (R235). -/
  | ldrhUimm (imm12 : BitVec 12) (rn rt : RegIx)
  /-- LDR, unsigned immediate offset (R236). -/
  | ldrUimm (c : Cell) (imm12 : BitVec 12) (rn rt : RegIx)
  /-- LDRSB, unsigned immediate offset (R237). -/
  | ldrsbUimm (c : Cell) (imm12 : BitVec 12) (rn rt : RegIx)
  /-- LDRSH, unsigned immediate offset (R238). -/
  | ldrshUimm (c : Cell) (imm12 : BitVec 12) (rn rt : RegIx)
  /-- LDRSW, unsigned immediate offset (R239). -/
  | ldrswUimm (imm12 : BitVec 12) (rn rt : RegIx)
  /-- PRFM, unsigned immediate offset: the cell `(11, 10, 0)` (R240). -/
  | prfmUimm (imm12 : BitVec 12) (rn rt : RegIx)
  -- 43_ls_register_offset.md, format of R115
  /-- STRB, register offset (R262). -/
  | strbRegoff (rm : RegIx) (option : BitVec 3) (s : Bool) (rn rt : RegIx)
  /-- STRH, register offset (R263). -/
  | strhRegoff (rm : RegIx) (option : BitVec 3) (s : Bool) (rn rt : RegIx)
  /-- STR, register offset (R264). -/
  | strRegoff (c : Cell) (rm : RegIx) (option : BitVec 3) (s : Bool) (rn rt : RegIx)
  /-- LDRB, register offset (R265). -/
  | ldrbRegoff (rm : RegIx) (option : BitVec 3) (s : Bool) (rn rt : RegIx)
  /-- LDRH, register offset (R266). -/
  | ldrhRegoff (rm : RegIx) (option : BitVec 3) (s : Bool) (rn rt : RegIx)
  /-- LDR, register offset (R267). -/
  | ldrRegoff (c : Cell) (rm : RegIx) (option : BitVec 3) (s : Bool) (rn rt : RegIx)
  /-- LDRSB, register offset (R268). -/
  | ldrsbRegoff (c : Cell) (rm : RegIx) (option : BitVec 3) (s : Bool) (rn rt : RegIx)
  /-- LDRSH, register offset (R269). -/
  | ldrshRegoff (c : Cell) (rm : RegIx) (option : BitVec 3) (s : Bool) (rn rt : RegIx)
  /-- LDRSW, register offset (R270). -/
  | ldrswRegoff (rm : RegIx) (option : BitVec 3) (s : Bool) (rn rt : RegIx)
  /-- PRFM, register offset: the cells `(10, 11, 0)` and `(11, 10, 0)` (R271). -/
  | prfmRegoff (c : Cell) (rm : RegIx) (option : BitVec 3) (s : Bool) (rn rt : RegIx)
  -- 44_ls_unscaled.md, format of R116 with op4 = 00
  /-- STURB, unscaled immediate offset (R291). -/
  | sturb (imm9 : BitVec 9) (rn rt : RegIx)
  /-- STURH, unscaled immediate offset (R292). -/
  | sturh (imm9 : BitVec 9) (rn rt : RegIx)
  /-- STUR, unscaled immediate offset (R293). -/
  | stur (c : Cell) (imm9 : BitVec 9) (rn rt : RegIx)
  /-- LDURB, unscaled immediate offset (R294). -/
  | ldurb (imm9 : BitVec 9) (rn rt : RegIx)
  /-- LDURH, unscaled immediate offset (R295). -/
  | ldurh (imm9 : BitVec 9) (rn rt : RegIx)
  /-- LDUR, unscaled immediate offset (R296). -/
  | ldur (c : Cell) (imm9 : BitVec 9) (rn rt : RegIx)
  /-- LDURSB, unscaled immediate offset (R297). -/
  | ldursb (c : Cell) (imm9 : BitVec 9) (rn rt : RegIx)
  /-- LDURSH, unscaled immediate offset (R298). -/
  | ldursh (c : Cell) (imm9 : BitVec 9) (rn rt : RegIx)
  /-- LDURSW, unscaled immediate offset (R299). -/
  | ldursw (imm9 : BitVec 9) (rn rt : RegIx)
  /-- PRFUM, unscaled immediate offset: the cell `(11, 10, 0)` (R300). -/
  | prfum (imm9 : BitVec 9) (rn rt : RegIx)
  -- 45_ls_indexed.md, format of R116 with op4 = 01
  /-- STRB, immediate, post-indexed (R321). -/
  | strbPost (imm9 : BitVec 9) (rn rt : RegIx)
  /-- STRH, immediate, post-indexed (R322). -/
  | strhPost (imm9 : BitVec 9) (rn rt : RegIx)
  /-- STR, immediate, post-indexed (R323). -/
  | strPost (c : Cell) (imm9 : BitVec 9) (rn rt : RegIx)
  /-- LDRB, immediate, post-indexed (R324). -/
  | ldrbPost (imm9 : BitVec 9) (rn rt : RegIx)
  /-- LDRH, immediate, post-indexed (R325). -/
  | ldrhPost (imm9 : BitVec 9) (rn rt : RegIx)
  /-- LDR, immediate, post-indexed (R326). -/
  | ldrPost (c : Cell) (imm9 : BitVec 9) (rn rt : RegIx)
  /-- LDRSB, immediate, post-indexed (R327). -/
  | ldrsbPost (c : Cell) (imm9 : BitVec 9) (rn rt : RegIx)
  /-- LDRSH, immediate, post-indexed (R328). -/
  | ldrshPost (c : Cell) (imm9 : BitVec 9) (rn rt : RegIx)
  /-- LDRSW, immediate, post-indexed (R329). -/
  | ldrswPost (imm9 : BitVec 9) (rn rt : RegIx)
  -- 45_ls_indexed.md, format of R116 with op4 = 11
  /-- STRB, immediate, pre-indexed (R331). -/
  | strbPre (imm9 : BitVec 9) (rn rt : RegIx)
  /-- STRH, immediate, pre-indexed (R332). -/
  | strhPre (imm9 : BitVec 9) (rn rt : RegIx)
  /-- STR, immediate, pre-indexed (R333). -/
  | strPre (c : Cell) (imm9 : BitVec 9) (rn rt : RegIx)
  /-- LDRB, immediate, pre-indexed (R334). -/
  | ldrbPre (imm9 : BitVec 9) (rn rt : RegIx)
  /-- LDRH, immediate, pre-indexed (R335). -/
  | ldrhPre (imm9 : BitVec 9) (rn rt : RegIx)
  /-- LDR, immediate, pre-indexed (R336). -/
  | ldrPre (c : Cell) (imm9 : BitVec 9) (rn rt : RegIx)
  /-- LDRSB, immediate, pre-indexed (R337). -/
  | ldrsbPre (c : Cell) (imm9 : BitVec 9) (rn rt : RegIx)
  /-- LDRSH, immediate, pre-indexed (R338). -/
  | ldrshPre (c : Cell) (imm9 : BitVec 9) (rn rt : RegIx)
  /-- LDRSW, immediate, pre-indexed (R339). -/
  | ldrswPre (imm9 : BitVec 9) (rn rt : RegIx)
  -- the Undefined words, by reason (R132, R401); the table's mnemonic is INVALID
  /-- Undefined with the reason `RESERVED_GROUP` (R170). -/
  | undefReservedGroup (word : Word)
  /-- Undefined with the reason `UNALLOCATED_TYPE` (R170). -/
  | undefUnallocatedType (word : Word)
  /-- Undefined with the reason `SIMD_LS_STRUCT` (R172). -/
  | undefSimdLsStruct (word : Word)
  /-- Undefined with the reason `PAIR_OPC11`, in any of the three pair modes (R213). -/
  | undefPairOpc11 (word : Word)
  /-- Undefined with the reason `LS_UIMM_CELL` (R241). -/
  | undefLsUimmCell (word : Word)
  /-- Undefined with the reason `LS_REGOFF_CELL` (R272). -/
  | undefLsRegoffCell (word : Word)
  /-- Undefined with the reason `LS_UNSCALED_CELL` (R301). -/
  | undefLsUnscaledCell (word : Word)
  /-- Undefined with the reason `LS_INDEXED_CELL`, post- or pre-indexed (R340). -/
  | undefLsIndexedCell (word : Word)
  -- the Unimplemented words, by kind (R133, R402); the table's mnemonic is UNIMPLEMENTED
  /-- Unimplemented with the kind `SME` (R170). -/
  | unimplSme (word : Word)
  /-- Unimplemented with the kind `MEMORY_TAGS` (R171). -/
  | unimplMemoryTags (word : Word)
  /-- Unimplemented with the kind `EXCLUSIVE_PAIR` (R171). -/
  | unimplExclusivePair (word : Word)
  /-- Unimplemented with the kind `EXCL_ORDERED_CAS`: the arm R175 shows no word reaches, kept for fidelity (log entry 14). -/
  | unimplExclOrderedCas (word : Word)
  /-- Unimplemented with the kind `LDAPR_LITERAL_MEMCPY` (R171). -/
  | unimplLdaprLiteralMemcpy (word : Word)
  /-- Unimplemented with the kind `NOALLOC_PAIR` (R173). -/
  | unimplNoallocPair (word : Word)
  /-- Unimplemented with the kind `ATOMIC` (R174). -/
  | unimplAtomic (word : Word)
  /-- Unimplemented with the kind `PAC` (R174). -/
  | unimplPac (word : Word)
  /-- Unimplemented with the kind `UNPRIVILEGED` (R174). -/
  | unimplUnprivileged (word : Word)
  -- the delegated words, by unit (R31, R177); the table's mnemonic is DELEGATE
  /-- Delegated to the unit `SVE` (R170). -/
  | delegateSve (word : Word)
  /-- Delegated to the unit `DPI`, data-processing-immediate (R170). -/
  | delegateDpi (word : Word)
  /-- Delegated to the unit `BES`, branches/exceptions/system (R170, R178). -/
  | delegateBes (word : Word)
  /-- Delegated to the unit `DPR`, data-processing-register (R170). -/
  | delegateDpr (word : Word)
  /-- Delegated to the unit `SIMD`, the Otherwise arm (R170). -/
  | delegateSimd (word : Word)
  /-- Delegated to the unit `SIMD_LS_SINGLE` (R172). -/
  | delegateSimdLsSingle (word : Word)
  /-- Delegated to the unit `SIMD_LS_SINGLE_POST` (R172). -/
  | delegateSimdLsSinglePost (word : Word)
deriving DecidableEq, Repr

end Sys2Proof
end

