-- ==== Sys2Proof/Machine/Fields.lean ====
section
/-! DEFINITION. The bit fields of an instruction word (spec/30_encoding.md R111–R116) and the little-endian assembly of
a word from four bytes (20_memory.md R81). Every extraction of a field from a word goes through here. -/

namespace Sys2Proof

/-- `I[lo+len-1:lo]`, the unsigned field of `len` bits from bit `lo` up (R7). -/
def field (w : Word) (lo len : Nat) : BitVec len := w.extractLsb' lo len

/-- `I[n]`, a single bit (R7). -/
def bitAt (w : Word) (n : Nat) : Bool := w.getLsbD n

/-- `t = I[28:25]` (R111). -/
def fT (w : Word) : BitVec 4 := field w 25 4
/-- `op0 = I[31:28]` (R112). -/
def fOp0 (w : Word) : BitVec 4 := field w 28 4
/-- `op0' = I[29:28]` (R112). -/
def fOp0Low (w : Word) : BitVec 2 := field w 28 2
/-- `op1 = I[26]` (R112), which is also the `V` bit of every load/store format (R113–R116). -/
def fV (w : Word) : Bool := bitAt w 26
/-- `op2 = I[24:23]` (R112, R113). -/
def fOp2 (w : Word) : BitVec 2 := field w 23 2
/-- `op2h = I[24]` (R112). -/
def fOp2h (w : Word) : Bool := bitAt w 24
/-- `op3 >> 5 = I[21]` (R112). -/
def fB21 (w : Word) : Bool := bitAt w 21
/-- `op3 & 0b11111 = I[20:16]` (R112). -/
def fOp3Low (w : Word) : BitVec 5 := field w 16 5
/-- `op4 = I[11:10]` (R112, R116). -/
def fOp4 (w : Word) : BitVec 2 := field w 10 2

/-- `I[31:30]`: the pair format's `opc` (R113) and the single-register formats' `size` (R114–R116). -/
def fTop2 (w : Word) : BitVec 2 := field w 30 2
/-- `L = I[22]` (R113). -/
def fL (w : Word) : Bool := bitAt w 22
/-- `imm7 = I[21:15]` (R113). -/
def fImm7 (w : Word) : BitVec 7 := field w 15 7
/-- `Rt2 = I[14:10]` (R113). -/
def fRt2 (w : Word) : RegIx := field w 10 5
/-- `opc = I[23:22]` (R114–R116). -/
def fOpc (w : Word) : BitVec 2 := field w 22 2
/-- `imm12 = I[21:10]` (R114). -/
def fImm12 (w : Word) : BitVec 12 := field w 10 12
/-- `Rm = I[20:16]` (R115). -/
def fRm (w : Word) : RegIx := field w 16 5
/-- `option = I[15:13]` (R115). -/
def fOption (w : Word) : BitVec 3 := field w 13 3
/-- `S = I[12]` (R115). -/
def fS (w : Word) : Bool := bitAt w 12
/-- `imm9 = I[20:12]` (R116). -/
def fImm9 (w : Word) : BitVec 9 := field w 12 9
/-- `Rn = I[9:5]` (R113–R116). -/
def fRn (w : Word) : RegIx := field w 5 5
/-- `Rt = I[4:0]` (R113–R116). -/
def fRt (w : Word) : RegIx := field w 0 5

/-- The cell `(opc, size, V)` of a single-register word (R9, R114–R116). -/
def fCell (w : Word) : Cell := { opc := fOpc w, size := fTop2 w, v := fV w }

/-- Little-endian word assembly (R81): `B[i] | B[i+1] << 8 | B[i+2] << 16 | B[i+3] << 24`. -/
def wordOfBytes (b0 b1 b2 b3 : Byte) : Word :=
  b0.setWidth 32 ||| (b1.setWidth 32 <<< 8) ||| (b2.setWidth 32 <<< 16) ||| (b3.setWidth 32 <<< 24)

/-- The byte that stores bits `8k+7 .. 8k` of a word (R81: `B[i+k]`). -/
def byteOfWord (w : Word) (k : Nat) : Byte := w.extractLsb' (8 * k) 8

end Sys2Proof
end

