-- ==== Sys2Proof/WellFormed.lean ====
section
/-! DEFINITION. Which terms of `Instr` stand for a word: a cell operand is one the spec's encoding lists for that
instruction, and a word carried whole is one its rule names. The cells are written out from the "Encoding" and
"Undefined cells" paragraphs of spec/41_pairs.md to 45_ls_indexed.md, and the conditions on words from 60_exceptions.md
R401, R402 and 30_encoding.md R130, R131: none of them from the decoder or its lookup tables. -/

namespace Sys2Proof

/-- The `(opc, V)` cells of STP and LDP (41_pairs.md, the cell table below R200). -/
def pairCells : List (BitVec 2 × Bool) := [(0b00, false), (0b00, true), (0b01, true), (0b10, false), (0b10, true)]

/-- The seven STR (STUR) cells (R233, R264, R293, R323, R333). -/
def strCells : List Cell :=
  [⟨0b00, 0b10, false⟩, ⟨0b00, 0b11, false⟩, ⟨0b00, 0b00, true⟩, ⟨0b00, 0b01, true⟩, ⟨0b00, 0b10, true⟩,
   ⟨0b00, 0b11, true⟩, ⟨0b10, 0b00, true⟩]

/-- The seven LDR (LDUR) cells (R236, R267, R296, R326, R336). -/
def ldrCells : List Cell :=
  [⟨0b01, 0b10, false⟩, ⟨0b01, 0b11, false⟩, ⟨0b01, 0b00, true⟩, ⟨0b01, 0b01, true⟩, ⟨0b01, 0b10, true⟩,
   ⟨0b01, 0b11, true⟩, ⟨0b11, 0b00, true⟩]

/-- The two LDRSB (LDURSB) cells (R237, R268, R297, R327, R337). -/
def ldrsbCells : List Cell := [⟨0b10, 0b00, false⟩, ⟨0b11, 0b00, false⟩]

/-- The two LDRSH (LDURSH) cells (R238, R269, R298, R328, R338). -/
def ldrshCells : List Cell := [⟨0b10, 0b01, false⟩, ⟨0b11, 0b01, false⟩]

/-- The two PRFM cells of the register-offset form (R271). -/
def prfmRegoffCells : List Cell := [⟨0b10, 0b11, false⟩, ⟨0b11, 0b10, false⟩]

/-- The Undefined cells of the register-offset form (R272), which are Undefined in every single-register form. -/
def undefCellsRegoff : List Cell :=
  [⟨0b10, 0b01, true⟩, ⟨0b10, 0b10, true⟩, ⟨0b10, 0b11, true⟩, ⟨0b11, 0b01, true⟩, ⟨0b11, 0b10, true⟩,
   ⟨0b11, 0b11, false⟩, ⟨0b11, 0b11, true⟩]

/-- The Undefined cells of the unsigned-immediate and of the unscaled form (R241, R301). -/
def undefCellsUimm : List Cell := ⟨0b10, 0b11, false⟩ :: undefCellsRegoff

/-- The Undefined cells of both indexed forms (R340). -/
def undefCellsIdx : List Cell := ⟨0b11, 0b10, false⟩ :: undefCellsUimm

/-- A loads/stores word: `t ∈ {0100, 0110, 1100, 1110}`, that is `I[27] = 1` and `I[25] = 0` (R130). -/
def isLoadStore (w : Word) : Bool := bitAt w 27 && !bitAt w 25

/-- A loads/stores word with `op0 ∈ {0000, 0100}` (R131). -/
def isSimdStruct (w : Word) : Bool := isLoadStore w && (fOp0 w = 0b0000 || fOp0 w = 0b0100)

/-- A word of the memory-tags class (R131, R402). -/
def isMemoryTags (w : Word) : Bool := isLoadStore w && fOp0 w = 0b1101 && !fV w && fOp2h w && fB21 w

/-- A pair word (R131: `op0 ∈ {0010, 0110, 1010, 1110}`). -/
def isPair (w : Word) : Bool := isLoadStore w && fOp0Low w = 0b10

/-- A register-or-atomic word (R131: `op0 ∈ {0011, 0111, 1011, 1111}`). -/
def isRegOrAtomic (w : Word) : Bool := isLoadStore w && fOp0Low w = 0b11

/-- The well-formed instructions: those that some word encodes. -/
def Instr.wf : Instr → Bool
  | .stpPost opc v _ _ _ _ | .stpOffset opc v _ _ _ _ | .stpPre opc v _ _ _ _
  | .ldpPost opc v _ _ _ _ | .ldpOffset opc v _ _ _ _ | .ldpPre opc v _ _ _ _ => decide ((opc, v) ∈ pairCells)
  | .stgpPost .. | .stgpOffset .. | .stgpPre .. | .ldpswPost .. | .ldpswOffset .. | .ldpswPre .. => true
  | .strbUimm .. | .strhUimm .. | .ldrbUimm .. | .ldrhUimm .. | .ldrswUimm .. | .prfmUimm .. => true
  | .strUimm c _ _ _ => decide (c ∈ strCells)
  | .ldrUimm c _ _ _ => decide (c ∈ ldrCells)
  | .ldrsbUimm c _ _ _ => decide (c ∈ ldrsbCells)
  | .ldrshUimm c _ _ _ => decide (c ∈ ldrshCells)
  | .strbRegoff .. | .strhRegoff .. | .ldrbRegoff .. | .ldrhRegoff .. | .ldrswRegoff .. => true
  | .strRegoff c _ _ _ _ _ => decide (c ∈ strCells)
  | .ldrRegoff c _ _ _ _ _ => decide (c ∈ ldrCells)
  | .ldrsbRegoff c _ _ _ _ _ => decide (c ∈ ldrsbCells)
  | .ldrshRegoff c _ _ _ _ _ => decide (c ∈ ldrshCells)
  | .prfmRegoff c _ _ _ _ _ => decide (c ∈ prfmRegoffCells)
  | .sturb .. | .sturh .. | .ldurb .. | .ldurh .. | .ldursw .. | .prfum .. => true
  | .stur c _ _ _ => decide (c ∈ strCells)
  | .ldur c _ _ _ => decide (c ∈ ldrCells)
  | .ldursb c _ _ _ => decide (c ∈ ldrsbCells)
  | .ldursh c _ _ _ => decide (c ∈ ldrshCells)
  | .strbPost .. | .strhPost .. | .ldrbPost .. | .ldrhPost .. | .ldrswPost .. => true
  | .strPost c _ _ _ => decide (c ∈ strCells)
  | .ldrPost c _ _ _ => decide (c ∈ ldrCells)
  | .ldrsbPost c _ _ _ => decide (c ∈ ldrsbCells)
  | .ldrshPost c _ _ _ => decide (c ∈ ldrshCells)
  | .strbPre .. | .strhPre .. | .ldrbPre .. | .ldrhPre .. | .ldrswPre .. => true
  | .strPre c _ _ _ => decide (c ∈ strCells)
  | .ldrPre c _ _ _ => decide (c ∈ ldrCells)
  | .ldrsbPre c _ _ _ => decide (c ∈ ldrsbCells)
  | .ldrshPre c _ _ _ => decide (c ∈ ldrshCells)
  -- the causes of R401
  | .undefReservedGroup w => !bitAt w 31 && fT w = 0b0000
  | .undefUnallocatedType w => fT w = 0b0001 || fT w = 0b0011
  | .undefSimdLsStruct w => isSimdStruct w && fOp2 w ≠ 0b11 && fOp3Low w ≠ 0b00000
  | .undefPairOpc11 w => isPair w && fOp2 w ≠ 0b00 && fTop2 w = 0b11
  | .undefLsUimmCell w => isRegOrAtomic w && fOp2h w && decide (fCell w ∈ undefCellsUimm)
  | .undefLsRegoffCell w =>
      isRegOrAtomic w && !fOp2h w && fB21 w && fOp4 w = 0b10 && decide (fCell w ∈ undefCellsRegoff)
  | .undefLsUnscaledCell w =>
      isRegOrAtomic w && !fOp2h w && !fB21 w && fOp4 w = 0b00 && decide (fCell w ∈ undefCellsUimm)
  | .undefLsIndexedCell w =>
      isRegOrAtomic w && !fOp2h w && !fB21 w && (fOp4 w = 0b01 || fOp4 w = 0b11) && decide (fCell w ∈ undefCellsIdx)
  -- the causes of R402 (no word has the fourth one's: R175)
  | .unimplSme w => bitAt w 31 && fT w = 0b0000
  | .unimplMemoryTags w => isMemoryTags w
  | .unimplExclusivePair w => isLoadStore w && (fOp0 w = 0b1000 || fOp0 w = 0b1100)
  | .unimplExclOrderedCas w =>
      isLoadStore w && fOp0Low w = 0b00 && !isSimdStruct w && !(fOp0 w = 0b1000 || fOp0 w = 0b1100)
  | .unimplLdaprLiteralMemcpy w => isLoadStore w && fOp0Low w = 0b01 && !isMemoryTags w
  | .unimplNoallocPair w => isPair w && fOp2 w = 0b00
  | .unimplAtomic w => isRegOrAtomic w && !fOp2h w && fB21 w && fOp4 w = 0b00
  | .unimplPac w => isRegOrAtomic w && !fOp2h w && fB21 w && (fOp4 w = 0b01 || fOp4 w = 0b11)
  | .unimplUnprivileged w => isRegOrAtomic w && !fOp2h w && !fB21 w && fOp4 w = 0b10
  -- the delegated words of R130, R131
  | .delegateSve w => fT w = 0b0010
  | .delegateDpi w => fT w = 0b1000 || fT w = 0b1001
  | .delegateBes w => fT w = 0b1010 || fT w = 0b1011
  | .delegateDpr w => fT w = 0b0101 || fT w = 0b1101
  | .delegateSimd w => fT w = 0b0111 || fT w = 0b1111
  | .delegateSimdLsSingle w => isSimdStruct w && fOp2 w ≠ 0b11 && fOp3Low w = 0b00000
  | .delegateSimdLsSinglePost w => isSimdStruct w && fOp2 w = 0b11

end Sys2Proof
end

