-- ==== Sys2Proof/Decode.lean ====
section
/-! DEFINITION. The mnemonic lookup tables (spec/30_encoding.md R122–R125), the decoder from a word to the one
instruction it is (the routing of 40_dispatch.md R170–R174 and the table lookups of R200, R230, R260, R290, R320), and
after it the encoder, written from the formats of R113–R116. -/

namespace Sys2Proof

open Machine

/-! ### The lookup tables -/

/-- The nine load/store operations a single-register table names; `baseName` and `unscaledName` spell them. -/
inductive LsOp where
  | strb | strh | str | ldrb | ldrh | ldr | ldrsb | ldrsh | ldrsw
deriving DecidableEq, Repr, Inhabited

/-- The mnemonic of the unsigned-immediate, register-offset and indexed forms (R122). -/
def LsOp.baseName : LsOp → Mnemonic
  | .strb => .strb | .strh => .strh | .str => .str
  | .ldrb => .ldrb | .ldrh => .ldrh | .ldr => .ldr
  | .ldrsb => .ldrsb | .ldrsh => .ldrsh | .ldrsw => .ldrsw

/-- The mnemonic of the unscaled form: the renaming of R126. -/
def LsOp.unscaledName : LsOp → Mnemonic
  | .strb => .sturb | .strh => .sturh | .str => .stur
  | .ldrb => .ldurb | .ldrh => .ldurh | .ldr => .ldur
  | .ldrsb => .ldursb | .ldrsh => .ldursh | .ldrsw => .ldursw

/-- An entry of a lookup table: a mnemonic, `Undefined` (the document's "—"), or PRFM (PRFUM in the unscaled table). -/
inductive LutEntry where
  | op (o : LsOp)
  | undefined
  | prefetch
deriving DecidableEq, Repr, Inhabited

/-- `LUT_UIMM(opc, size, V)` (R122), row by row; a cell it does not list is a "—" cell. -/
def lutUimm (c : Cell) : LutEntry :=
  match c.opc, c.size, c.v with
  | 0b00#2, 0b00#2, false => .op .strb
  | 0b00#2, 0b01#2, false => .op .strh
  | 0b00#2, 0b10#2, false => .op .str
  | 0b00#2, 0b11#2, false => .op .str
  | 0b01#2, 0b00#2, false => .op .ldrb
  | 0b01#2, 0b01#2, false => .op .ldrh
  | 0b01#2, 0b10#2, false => .op .ldr
  | 0b01#2, 0b11#2, false => .op .ldr
  | 0b10#2, 0b00#2, false => .op .ldrsb
  | 0b10#2, 0b01#2, false => .op .ldrsh
  | 0b10#2, 0b10#2, false => .op .ldrsw
  | 0b11#2, 0b00#2, false => .op .ldrsb
  | 0b11#2, 0b01#2, false => .op .ldrsh
  | 0b11#2, 0b10#2, false => .prefetch
  | 0b00#2, 0b00#2, true => .op .str
  | 0b00#2, 0b01#2, true => .op .str
  | 0b00#2, 0b10#2, true => .op .str
  | 0b00#2, 0b11#2, true => .op .str
  | 0b01#2, 0b00#2, true => .op .ldr
  | 0b01#2, 0b01#2, true => .op .ldr
  | 0b01#2, 0b10#2, true => .op .ldr
  | 0b01#2, 0b11#2, true => .op .ldr
  | 0b10#2, 0b00#2, true => .op .str
  | 0b11#2, 0b00#2, true => .op .ldr
  | _, _, _ => .undefined

/-- `LUT_REG(opc, size, V)` (R123): `LUT_UIMM` with the cell `(10, 11, 0)` changed to PRFM. -/
def lutReg (c : Cell) : LutEntry :=
  if c = ⟨0b10, 0b11, false⟩ then .prefetch else lutUimm c

/-- `LUT_UNSC(opc, size, V)` (R124): `LUT_UIMM` with every mnemonic renamed; the entry names the operation, which
`LsOp.unscaledName` spells, and `.prefetch` is PRFUM. -/
def lutUnsc (c : Cell) : LutEntry := lutUimm c

/-- `LUT_IDX(opc, size, V)` (R125), of both indexed forms. -/
def lutIdx (c : Cell) : LutEntry :=
  if (c.size = 0b10 ∨ c.size = 0b11) ∧ (if c.v then c.opc = 0b10 ∨ c.opc = 0b11 else c.opc = 0b11) then .undefined
  else lutUimm c

/-! ### The decoder -/

/-- The pair words of R200, by mode, load bit and the `opc = 01, V = 0` override. -/
def decodePair (mode : MemMode) (w : Word) : Instr :=
  if fTop2 w = 0b11 then .undefPairOpc11 w
  else if fTop2 w = 0b01 ∧ fV w = false then
    match fL w, mode with
    | false, .postIndex => .stgpPost (fImm7 w) (fRt2 w) (fRn w) (fRt w)
    | false, .offset => .stgpOffset (fImm7 w) (fRt2 w) (fRn w) (fRt w)
    | false, .preIndex => .stgpPre (fImm7 w) (fRt2 w) (fRn w) (fRt w)
    | true, .postIndex => .ldpswPost (fImm7 w) (fRt2 w) (fRn w) (fRt w)
    | true, .offset => .ldpswOffset (fImm7 w) (fRt2 w) (fRn w) (fRt w)
    | true, .preIndex => .ldpswPre (fImm7 w) (fRt2 w) (fRn w) (fRt w)
  else
    match fL w, mode with
    | false, .postIndex => .stpPost (fTop2 w) (fV w) (fImm7 w) (fRt2 w) (fRn w) (fRt w)
    | false, .offset => .stpOffset (fTop2 w) (fV w) (fImm7 w) (fRt2 w) (fRn w) (fRt w)
    | false, .preIndex => .stpPre (fTop2 w) (fV w) (fImm7 w) (fRt2 w) (fRn w) (fRt w)
    | true, .postIndex => .ldpPost (fTop2 w) (fV w) (fImm7 w) (fRt2 w) (fRn w) (fRt w)
    | true, .offset => .ldpOffset (fTop2 w) (fV w) (fImm7 w) (fRt2 w) (fRn w) (fRt w)
    | true, .preIndex => .ldpPre (fTop2 w) (fV w) (fImm7 w) (fRt2 w) (fRn w) (fRt w)

/-- The unsigned-immediate words (R230). -/
def decodeUimm (w : Word) : Instr :=
  match lutUimm (fCell w) with
  | .undefined => .undefLsUimmCell w
  | .prefetch => .prfmUimm (fImm12 w) (fRn w) (fRt w)
  | .op .strb => .strbUimm (fImm12 w) (fRn w) (fRt w)
  | .op .strh => .strhUimm (fImm12 w) (fRn w) (fRt w)
  | .op .str => .strUimm (fCell w) (fImm12 w) (fRn w) (fRt w)
  | .op .ldrb => .ldrbUimm (fImm12 w) (fRn w) (fRt w)
  | .op .ldrh => .ldrhUimm (fImm12 w) (fRn w) (fRt w)
  | .op .ldr => .ldrUimm (fCell w) (fImm12 w) (fRn w) (fRt w)
  | .op .ldrsb => .ldrsbUimm (fCell w) (fImm12 w) (fRn w) (fRt w)
  | .op .ldrsh => .ldrshUimm (fCell w) (fImm12 w) (fRn w) (fRt w)
  | .op .ldrsw => .ldrswUimm (fImm12 w) (fRn w) (fRt w)

/-- The register-offset words (R260). -/
def decodeRegoff (w : Word) : Instr :=
  match lutReg (fCell w) with
  | .undefined => .undefLsRegoffCell w
  | .prefetch => .prfmRegoff (fCell w) (fRm w) (fOption w) (fS w) (fRn w) (fRt w)
  | .op .strb => .strbRegoff (fRm w) (fOption w) (fS w) (fRn w) (fRt w)
  | .op .strh => .strhRegoff (fRm w) (fOption w) (fS w) (fRn w) (fRt w)
  | .op .str => .strRegoff (fCell w) (fRm w) (fOption w) (fS w) (fRn w) (fRt w)
  | .op .ldrb => .ldrbRegoff (fRm w) (fOption w) (fS w) (fRn w) (fRt w)
  | .op .ldrh => .ldrhRegoff (fRm w) (fOption w) (fS w) (fRn w) (fRt w)
  | .op .ldr => .ldrRegoff (fCell w) (fRm w) (fOption w) (fS w) (fRn w) (fRt w)
  | .op .ldrsb => .ldrsbRegoff (fCell w) (fRm w) (fOption w) (fS w) (fRn w) (fRt w)
  | .op .ldrsh => .ldrshRegoff (fCell w) (fRm w) (fOption w) (fS w) (fRn w) (fRt w)
  | .op .ldrsw => .ldrswRegoff (fRm w) (fOption w) (fS w) (fRn w) (fRt w)

/-- The unscaled words (R290). -/
def decodeUnsc (w : Word) : Instr :=
  match lutUnsc (fCell w) with
  | .undefined => .undefLsUnscaledCell w
  | .prefetch => .prfum (fImm9 w) (fRn w) (fRt w)
  | .op .strb => .sturb (fImm9 w) (fRn w) (fRt w)
  | .op .strh => .sturh (fImm9 w) (fRn w) (fRt w)
  | .op .str => .stur (fCell w) (fImm9 w) (fRn w) (fRt w)
  | .op .ldrb => .ldurb (fImm9 w) (fRn w) (fRt w)
  | .op .ldrh => .ldurh (fImm9 w) (fRn w) (fRt w)
  | .op .ldr => .ldur (fCell w) (fImm9 w) (fRn w) (fRt w)
  | .op .ldrsb => .ldursb (fCell w) (fImm9 w) (fRn w) (fRt w)
  | .op .ldrsh => .ldursh (fCell w) (fImm9 w) (fRn w) (fRt w)
  | .op .ldrsw => .ldursw (fImm9 w) (fRn w) (fRt w)

/-- The post-indexed words (R320). `LUT_IDX` has no PRFM cell (R125), so its `.prefetch` arm answers what the table's
condition gives that cell, Undefined. -/
def decodePost (w : Word) : Instr :=
  match lutIdx (fCell w) with
  | .undefined | .prefetch => .undefLsIndexedCell w
  | .op .strb => .strbPost (fImm9 w) (fRn w) (fRt w)
  | .op .strh => .strhPost (fImm9 w) (fRn w) (fRt w)
  | .op .str => .strPost (fCell w) (fImm9 w) (fRn w) (fRt w)
  | .op .ldrb => .ldrbPost (fImm9 w) (fRn w) (fRt w)
  | .op .ldrh => .ldrhPost (fImm9 w) (fRn w) (fRt w)
  | .op .ldr => .ldrPost (fCell w) (fImm9 w) (fRn w) (fRt w)
  | .op .ldrsb => .ldrsbPost (fCell w) (fImm9 w) (fRn w) (fRt w)
  | .op .ldrsh => .ldrshPost (fCell w) (fImm9 w) (fRn w) (fRt w)
  | .op .ldrsw => .ldrswPost (fImm9 w) (fRn w) (fRt w)

/-- The pre-indexed words (R320). -/
def decodePre (w : Word) : Instr :=
  match lutIdx (fCell w) with
  | .undefined | .prefetch => .undefLsIndexedCell w
  | .op .strb => .strbPre (fImm9 w) (fRn w) (fRt w)
  | .op .strh => .strhPre (fImm9 w) (fRn w) (fRt w)
  | .op .str => .strPre (fCell w) (fImm9 w) (fRn w) (fRt w)
  | .op .ldrb => .ldrbPre (fImm9 w) (fRn w) (fRt w)
  | .op .ldrh => .ldrhPre (fImm9 w) (fRn w) (fRt w)
  | .op .ldr => .ldrPre (fCell w) (fImm9 w) (fRn w) (fRt w)
  | .op .ldrsb => .ldrsbPre (fCell w) (fImm9 w) (fRn w) (fRt w)
  | .op .ldrsh => .ldrshPre (fCell w) (fImm9 w) (fRn w) (fRt w)
  | .op .ldrsw => .ldrswPre (fImm9 w) (fRn w) (fRt w)

/-- The Advanced SIMD load/store structure node (R172). -/
def decodeSimdStruct (w : Word) : Instr :=
  if fOp2 w = 0b11 then .delegateSimdLsSinglePost w
  else if fOp3Low w = 0b00000 then .delegateSimdLsSingle w
  else .undefSimdLsStruct w

/-- The pair selector (R173). -/
def decodePairSelect (w : Word) : Instr :=
  if fOp2 w = 0b00 then .unimplNoallocPair w
  else if fOp2 w = 0b01 then decodePair .postIndex w
  else if fOp2 w = 0b10 then decodePair .offset w
  else decodePair .preIndex w

/-- The register-or-atomic selector (R174). -/
def decodeRegSelect (w : Word) : Instr :=
  if fOp2h w then decodeUimm w
  else if fB21 w then
    if fOp4 w = 0b00 then .unimplAtomic w
    else if fOp4 w = 0b10 then decodeRegoff w
    else .unimplPac w
  else
    if fOp4 w = 0b00 then decodeUnsc w
    else if fOp4 w = 0b01 then decodePost w
    else if fOp4 w = 0b10 then .unimplUnprivileged w
    else decodePre w

/-- The loads/stores classifier (R171), first match wins; its `op0' = 00` arm is kept though no word reaches it
(R175, log entry 14). -/
def decodeLs (w : Word) : Instr :=
  if fOp0 w &&& 0b1011 = 0 then decodeSimdStruct w
  else if fOp0 w = 0b1101 ∧ fV w = false ∧ fOp2h w = true ∧ fB21 w = true then .unimplMemoryTags w
  else if fOp0 w &&& 0b1011 = 0b1000 then .unimplExclusivePair w
  else if fOp0Low w = 0b00 then .unimplExclOrderedCas w
  else if fOp0Low w = 0b01 then .unimplLdaprLiteralMemcpy w
  else if fOp0Low w = 0b10 then decodePairSelect w
  else decodeRegSelect w

/-- The instruction a word is: the top-level dispatch (R170), total (R176). -/
def decodeWord (w : Word) : Instr :=
  if bitAt w 31 = false ∧ fT w = 0b0000 then .undefReservedGroup w
  else if fT w = 0b0001 ∨ fT w = 0b0011 then .undefUnallocatedType w
  else if fT w = 0b0000 then .unimplSme w
  else if fT w = 0b0010 then .delegateSve w
  else if fT w = 0b1000 ∨ fT w = 0b1001 then .delegateDpi w
  else if fT w = 0b1010 ∨ fT w = 0b1011 then .delegateBes w
  else if fT w = 0b0100 ∨ fT w = 0b0110 ∨ fT w = 0b1100 ∨ fT w = 0b1110 then decodeLs w
  else if fT w = 0b0101 ∨ fT w = 0b1101 then .delegateDpr w
  else .delegateSimd w

/-- Why bytes hold no instruction: fewer than the four of a word (R110). Raised by `decodeBytes`; safe. -/
inductive DecodeError where
  | truncated (found : Nat)
deriving DecidableEq, Repr

/-- The instruction at the front of a byte sequence, with the bytes after it: the first four bytes, little-endian
(R81, R110). -/
def decodeBytes : List Byte → Except DecodeError (Instr × List Byte)
  | b0 :: b1 :: b2 :: b3 :: rest => .ok (decodeWord (wordOfBytes b0 b1 b2 b3), rest)
  | bs => .error (.truncated bs.length)

/-- The four bytes that store a word, the byte of the lowest offset first (R81). -/
def bytesOfWord (w : Word) : List Byte := [byteOfWord w 0, byteOfWord w 1, byteOfWord w 2, byteOfWord w 3]

/-- The instruction the decoder reads from the table's word `w` of `nbits` bits, laid out as the buffer stores it. -/
def decodeTableWord (nbits w : Nat) : Option Instr :=
  if nbits ≤ 32 then
    match decodeBytes (bytesOfWord (BitVec.ofNat 32 (w % 2 ^ nbits))) with
    | .ok (i, _) => some i
    | .error _ => none
  else none

/-! ### The encoder -/

/-- The pair format (R113): `oo101V0mmLiiiiiiiTTTTTnnnnnttttt`. -/
def encodePair (opc : BitVec 2) (v : Bool) (op2 : BitVec 2) (l : Bool) (imm7 : BitVec 7) (rt2 rn rt : RegIx) : Word :=
  opc ++ 0b101#3 ++ BitVec.ofBool v ++ 0b0#1 ++ op2 ++ BitVec.ofBool l ++ imm7 ++ rt2 ++ rn ++ rt

/-- The unsigned-immediate format (R114): `ss111V01ooiiiiiiiiiiiinnnnnttttt`. -/
def encodeUimm (c : Cell) (imm12 : BitVec 12) (rn rt : RegIx) : Word :=
  c.size ++ 0b111#3 ++ BitVec.ofBool c.v ++ 0b01#2 ++ c.opc ++ imm12 ++ rn ++ rt

/-- The register-offset format (R115): `ss111V00oo1mmmmmxxxS10nnnnnttttt`. -/
def encodeRegoff (c : Cell) (rm : RegIx) (option : BitVec 3) (s : Bool) (rn rt : RegIx) : Word :=
  c.size ++ 0b111#3 ++ BitVec.ofBool c.v ++ 0b00#2 ++ c.opc ++ 0b1#1 ++ rm ++ option ++ BitVec.ofBool s ++ 0b10#2 ++
    rn ++ rt

/-- The unscaled and indexed formats (R116): `ss111V00oo0iiiiiiiiippnnnnnttttt`. -/
def encodeImm9 (c : Cell) (imm9 : BitVec 9) (op4 : BitVec 2) (rn rt : RegIx) : Word :=
  c.size ++ 0b111#3 ++ BitVec.ofBool c.v ++ 0b00#2 ++ c.opc ++ 0b0#1 ++ imm9 ++ op4 ++ rn ++ rt

/-- The word of a well-formed instruction. -/
def encode : Instr → Word
  | .stpPost opc v imm7 rt2 rn rt => encodePair opc v 0b01 false imm7 rt2 rn rt
  | .stpOffset opc v imm7 rt2 rn rt => encodePair opc v 0b10 false imm7 rt2 rn rt
  | .stpPre opc v imm7 rt2 rn rt => encodePair opc v 0b11 false imm7 rt2 rn rt
  | .ldpPost opc v imm7 rt2 rn rt => encodePair opc v 0b01 true imm7 rt2 rn rt
  | .ldpOffset opc v imm7 rt2 rn rt => encodePair opc v 0b10 true imm7 rt2 rn rt
  | .ldpPre opc v imm7 rt2 rn rt => encodePair opc v 0b11 true imm7 rt2 rn rt
  | .stgpPost imm7 rt2 rn rt => encodePair 0b01 false 0b01 false imm7 rt2 rn rt
  | .stgpOffset imm7 rt2 rn rt => encodePair 0b01 false 0b10 false imm7 rt2 rn rt
  | .stgpPre imm7 rt2 rn rt => encodePair 0b01 false 0b11 false imm7 rt2 rn rt
  | .ldpswPost imm7 rt2 rn rt => encodePair 0b01 false 0b01 true imm7 rt2 rn rt
  | .ldpswOffset imm7 rt2 rn rt => encodePair 0b01 false 0b10 true imm7 rt2 rn rt
  | .ldpswPre imm7 rt2 rn rt => encodePair 0b01 false 0b11 true imm7 rt2 rn rt
  | .strbUimm imm12 rn rt => encodeUimm ⟨0b00, 0b00, false⟩ imm12 rn rt
  | .strhUimm imm12 rn rt => encodeUimm ⟨0b00, 0b01, false⟩ imm12 rn rt
  | .strUimm c imm12 rn rt => encodeUimm c imm12 rn rt
  | .ldrbUimm imm12 rn rt => encodeUimm ⟨0b01, 0b00, false⟩ imm12 rn rt
  | .ldrhUimm imm12 rn rt => encodeUimm ⟨0b01, 0b01, false⟩ imm12 rn rt
  | .ldrUimm c imm12 rn rt => encodeUimm c imm12 rn rt
  | .ldrsbUimm c imm12 rn rt => encodeUimm c imm12 rn rt
  | .ldrshUimm c imm12 rn rt => encodeUimm c imm12 rn rt
  | .ldrswUimm imm12 rn rt => encodeUimm ⟨0b10, 0b10, false⟩ imm12 rn rt
  | .prfmUimm imm12 rn rt => encodeUimm ⟨0b11, 0b10, false⟩ imm12 rn rt
  | .strbRegoff rm option s rn rt => encodeRegoff ⟨0b00, 0b00, false⟩ rm option s rn rt
  | .strhRegoff rm option s rn rt => encodeRegoff ⟨0b00, 0b01, false⟩ rm option s rn rt
  | .strRegoff c rm option s rn rt => encodeRegoff c rm option s rn rt
  | .ldrbRegoff rm option s rn rt => encodeRegoff ⟨0b01, 0b00, false⟩ rm option s rn rt
  | .ldrhRegoff rm option s rn rt => encodeRegoff ⟨0b01, 0b01, false⟩ rm option s rn rt
  | .ldrRegoff c rm option s rn rt => encodeRegoff c rm option s rn rt
  | .ldrsbRegoff c rm option s rn rt => encodeRegoff c rm option s rn rt
  | .ldrshRegoff c rm option s rn rt => encodeRegoff c rm option s rn rt
  | .ldrswRegoff rm option s rn rt => encodeRegoff ⟨0b10, 0b10, false⟩ rm option s rn rt
  | .prfmRegoff c rm option s rn rt => encodeRegoff c rm option s rn rt
  | .sturb imm9 rn rt => encodeImm9 ⟨0b00, 0b00, false⟩ imm9 0b00 rn rt
  | .sturh imm9 rn rt => encodeImm9 ⟨0b00, 0b01, false⟩ imm9 0b00 rn rt
  | .stur c imm9 rn rt => encodeImm9 c imm9 0b00 rn rt
  | .ldurb imm9 rn rt => encodeImm9 ⟨0b01, 0b00, false⟩ imm9 0b00 rn rt
  | .ldurh imm9 rn rt => encodeImm9 ⟨0b01, 0b01, false⟩ imm9 0b00 rn rt
  | .ldur c imm9 rn rt => encodeImm9 c imm9 0b00 rn rt
  | .ldursb c imm9 rn rt => encodeImm9 c imm9 0b00 rn rt
  | .ldursh c imm9 rn rt => encodeImm9 c imm9 0b00 rn rt
  | .ldursw imm9 rn rt => encodeImm9 ⟨0b10, 0b10, false⟩ imm9 0b00 rn rt
  | .prfum imm9 rn rt => encodeImm9 ⟨0b11, 0b10, false⟩ imm9 0b00 rn rt
  | .strbPost imm9 rn rt => encodeImm9 ⟨0b00, 0b00, false⟩ imm9 0b01 rn rt
  | .strhPost imm9 rn rt => encodeImm9 ⟨0b00, 0b01, false⟩ imm9 0b01 rn rt
  | .strPost c imm9 rn rt => encodeImm9 c imm9 0b01 rn rt
  | .ldrbPost imm9 rn rt => encodeImm9 ⟨0b01, 0b00, false⟩ imm9 0b01 rn rt
  | .ldrhPost imm9 rn rt => encodeImm9 ⟨0b01, 0b01, false⟩ imm9 0b01 rn rt
  | .ldrPost c imm9 rn rt => encodeImm9 c imm9 0b01 rn rt
  | .ldrsbPost c imm9 rn rt => encodeImm9 c imm9 0b01 rn rt
  | .ldrshPost c imm9 rn rt => encodeImm9 c imm9 0b01 rn rt
  | .ldrswPost imm9 rn rt => encodeImm9 ⟨0b10, 0b10, false⟩ imm9 0b01 rn rt
  | .strbPre imm9 rn rt => encodeImm9 ⟨0b00, 0b00, false⟩ imm9 0b11 rn rt
  | .strhPre imm9 rn rt => encodeImm9 ⟨0b00, 0b01, false⟩ imm9 0b11 rn rt
  | .strPre c imm9 rn rt => encodeImm9 c imm9 0b11 rn rt
  | .ldrbPre imm9 rn rt => encodeImm9 ⟨0b01, 0b00, false⟩ imm9 0b11 rn rt
  | .ldrhPre imm9 rn rt => encodeImm9 ⟨0b01, 0b01, false⟩ imm9 0b11 rn rt
  | .ldrPre c imm9 rn rt => encodeImm9 c imm9 0b11 rn rt
  | .ldrsbPre c imm9 rn rt => encodeImm9 c imm9 0b11 rn rt
  | .ldrshPre c imm9 rn rt => encodeImm9 c imm9 0b11 rn rt
  | .ldrswPre imm9 rn rt => encodeImm9 ⟨0b10, 0b10, false⟩ imm9 0b11 rn rt
  | .undefReservedGroup w | .undefUnallocatedType w | .undefSimdLsStruct w => w
  | .undefPairOpc11 w | .undefLsUimmCell w | .undefLsRegoffCell w => w
  | .undefLsUnscaledCell w | .undefLsIndexedCell w | .unimplSme w => w
  | .unimplMemoryTags w | .unimplExclusivePair w | .unimplExclOrderedCas w => w
  | .unimplLdaprLiteralMemcpy w | .unimplNoallocPair w | .unimplAtomic w => w
  | .unimplPac w | .unimplUnprivileged w | .delegateSve w => w
  | .delegateDpi w | .delegateBes w | .delegateDpr w => w
  | .delegateSimd w | .delegateSimdLsSingle w | .delegateSimdLsSinglePost w => w

end Sys2Proof
end

