-- ==== Sys2Proof/Machine/Operands.lean ====
section
/-! DEFINITION. The operand forms: the immediate sign-extender (spec/30_encoding.md R117–R120), the register-offset
operand decode (R121), and the register-family decoder's functions (R127, R128). -/

namespace Sys2Proof.Machine

open Sys2Proof

/-! ### The bit utilities (R117) -/

/-- `zext_N(v) = v & (2^N - 1)`, as an unsigned 64-bit value. -/
def zext (n : Nat) (v : Imm) : Imm := v &&& BitVec.ofNat 64 (2 ^ n - 1)

/-- `sext_N(v)`: with `u = v & (2^N - 1)`, `u - 2^N` if `u >> (N-1) = 1`, else `u`. -/
def sext (n : Nat) (v : Imm) : Imm :=
  let u := zext n v
  if u >>> (n - 1) = 1 then u - BitVec.ofNat 64 (2 ^ n) else u

/-- `bit(v, n) = (v >> n) & 1`, "test a single bit". -/
def bit (v : Imm) (n : Nat) : Imm := (v >>> n) &&& 1

/-! ### Offsets -/

/-- The pair offset `sext_7(imm7) * (data_bits / 8)` (R118). -/
def pairOffset (imm7 : BitVec 7) (dataBits : Nat) : Imm :=
  sext 7 (imm7.setWidth 64) * BitVec.ofNat 64 (dataBits / 8)

/-- The unsigned-immediate offset `zext_12(imm12) << size` (R119; the 128-bit cells too, 90_conflicts.md C2). -/
def uimmOffset (imm12 : BitVec 12) (size : BitVec 2) : Imm := zext 12 (imm12.setWidth 64) <<< size.toNat

/-- The unscaled and indexed offset `sext_9(imm9)` (R120). -/
def imm9Offset (imm9 : BitVec 9) : Imm := sext 9 (imm9.setWidth 64)

/-! ### Register families -/

/-- `[B, H, S, D][size]` (R127). -/
def famScalar (size : BitVec 2) : Family :=
  if size = 0b00 then .B else if size = 0b01 then .H else if size = 0b10 then .S else .D

/-- `FAM(m, size, opc, V)` (R127) on the operation `b = BASE(m)`: the ordered cascade, first match wins. -/
def fam (b : LsOp) (c : Cell) : Family :=
  if c.v = true ∧ c.opc = 0b00 then famScalar c.size
  else if c.v = true then .V
  else match b with
    | .strb | .ldrb | .strh | .ldrh => .W
    | .str | .ldr => if c.size = 0b10 then .W else .X
    | .ldrsh => if c.opc = 0b10 then .X else .W
    | .ldrsw => .X
    | .ldrsb => if c.opc = 0b10 then .X else .W

/-- `BASE(m)` (R126): the inverse of the unscaled renaming, the identity on every other name. -/
def baseName : Mnemonic → Mnemonic
  | .sturb => .strb | .sturh => .strh | .stur => .str
  | .ldurb => .ldrb | .ldurh => .ldrh | .ldur => .ldr
  | .ldursb => .ldrsb | .ldursh => .ldrsh | .ldursw => .ldrsw
  | .prfum => .prfm
  | m => m

/-- `FAM_PAIR(opc, V, m)` and `DATA_BITS(opc, V, m)` (R128), row by row; `none` where the table has no row
(`opc = 11`, which is Undefined before it, and the cell `(01, 0)` for another mnemonic than STGP and LDPSW). -/
def famPair (opc : BitVec 2) (v : Bool) (m : Mnemonic) : Option (Family × Nat) :=
  match opc, v with
  | 0b00#2, true => some (.S, 32)
  | 0b00#2, false => some (.W, 32)
  | 0b01#2, false => if m = .stgp then some (.W, 32) else if m = .ldpsw then some (.D, 64) else none
  | 0b01#2, true => some (.D, 64)
  | 0b10#2, true => some (.V, 128)
  | 0b10#2, false => some (.X, 64)
  | _, _ => none

/-! ### The register-offset operand (R121) -/

/-- The four values `RegOperand` gives a record (R260). -/
structure RegOperand where
  addend : RegId
  ext : Ext
  shift : Shift
  amount : Fin 5
deriving DecidableEq, Repr

/-- `amt_size` (R121): 4 for the cell `(11, 00, 1)`, `size` for every other cell. -/
def amtSize (c : Cell) : Fin 5 :=
  if c.v = true ∧ c.opc = 0b11 ∧ c.size = 0b00 then 4 else c.size.toFin.castLE (by decide)

/-- The amount of an extended register offset with `S = 1`: the OPEN parameter `EXT_S1_AMOUNT` (R121, D12). -/
def extS1 (p : ExtS1Amount) (c : Cell) : Fin 5 :=
  match p with
  | .sizeDerived => amtSize c
  | .zero => 0

/-- The register-offset operand decode (R121, R261). -/
def regOperand (option : BitVec 3) (s : Bool) (c : Cell) (rm : RegIx) : RegOperand :=
  { addend := .reg (if option.getLsbD 0 then .X else .W) rm
    ext := if option = 0b011 then .none else .ext option
    shift := if option = 0b011 then .lsl else .none
    amount :=
      if s = false then 0
      else if option = 0b011 then amtSize c
      else extS1 Config.extS1Amount c }

end Sys2Proof.Machine
end

