-- ==== Sys2Proof/Machine/Leaf.lean ====
section
/-! DEFINITION. The leaf decoders' record builders, shared by every instruction of a format: `PairDecode` (spec/41_pairs.md
R200), `UImmDecode` (42_ls_unsigned_imm.md R230), `RegOffDecode` (43_ls_register_offset.md R260), `UnscDecode`
(44_ls_unscaled.md R290) and `IdxDecode` (45_ls_indexed.md R320), each from the mnemonic it has looked up on. -/

namespace Sys2Proof.Machine

open Sys2Proof

/-- `PairDecode(I, mode)` (R200) after the mnemonic is chosen. `opc = 11` is Undefined before any record is built
(R213). -/
def pairOut (m : Mnemonic) (mode : MemMode) (opc : BitVec 2) (v : Bool) (imm7 : BitVec 7) (rt2 rn rt : RegIx) :
    RouterOut :=
  match famPair opc v m with
  | none => .undefined .pairOpc11
  | some (f, bits) =>
    .ok { Record.empty with
      mnemonic := m
      category := some .loadStore
      op0Kind := .register
      op0Reg := .reg f rt
      op1Kind := .register
      op1Reg := .reg f rt2
      op2Kind := .memory
      memBase := .reg .X rn
      memOffset := pairOffset imm7 bits
      memMode := mode
      memIsPreIndexed := decide (mode = .preIndex) }

/-- The record every single-register leaf starts from: mnemonic, category, the data register in its family, the memory
operand and the base (R230, R260, R290, R320; R34). -/
def singleRecord (m : Mnemonic) (f : Family) (rn rt : RegIx) : Record :=
  { Record.empty with
    mnemonic := m
    category := some .loadStore
    op0Kind := .register
    op0Reg := .reg f rt
    op1Kind := .memory
    memBase := .reg .X rn }

/-- `UImmDecode(I)` (R230) at a mnemonic entry of `LUT_UIMM`. -/
def uimmOut (b : LsOp) (c : Cell) (imm12 : BitVec 12) (rn rt : RegIx) : RouterOut :=
  .ok { singleRecord b.baseName (fam b c) rn rt with memOffset := uimmOffset imm12 c.size }

/-- `RegOffDecode(I)` (R260) at a mnemonic entry of `LUT_REG`. -/
def regoffOut (b : LsOp) (c : Cell) (rm : RegIx) (option : BitVec 3) (s : Bool) (rn rt : RegIx) : RouterOut :=
  .ok { singleRecord b.baseName (fam b c) rn rt with
    memAddendReg := (regOperand option s c rm).addend
    memExtendType := (regOperand option s c rm).ext
    memShiftType := (regOperand option s c rm).shift
    memAmount := (regOperand option s c rm).amount }

/-- `UnscDecode(I)` (R290) at a mnemonic entry of `LUT_UNSC`. -/
def unscOut (b : LsOp) (c : Cell) (imm9 : BitVec 9) (rn rt : RegIx) : RouterOut :=
  .ok { singleRecord b.unscaledName (fam b c) rn rt with memOffset := imm9Offset imm9 }

/-- `IdxDecode(I, mode)` (R320) at a mnemonic entry of `LUT_IDX`. -/
def idxOut (mode : MemMode) (b : LsOp) (c : Cell) (imm9 : BitVec 9) (rn rt : RegIx) : RouterOut :=
  .ok { singleRecord b.baseName (fam b c) rn rt with
    memOffset := imm9Offset imm9
    memMode := mode
    memIsPreIndexed := decide (mode = .preIndex) }

end Sys2Proof.Machine
end

