-- ==== Sys2Proof/Machine/Flags.lean ====
section
/-! DEFINITION. The policy flags, the sequencer's only control register (spec/10_state.md R51, 00_scope.md R6): their
defaults, their bit positions, and how a caller's flags, any of them omitted, become the register. The unit has NO
condition flags (R30): no instruction computes one, so this file holds no flag computation. -/

namespace Sys2Proof.Machine

/-- The three policy inputs (R51); the default of each field is the spec's default for a flag the caller omits. -/
structure Flags where
  remapAliases : Bool := true
  continueOnError : Bool := false
  throwOnUnimplemented : Bool := true
deriving DecidableEq, Repr, Inhabited

/-- The flags of a caller that supplies none (R51, R54). -/
def Flags.default : Flags := {}

/-- The flags a call takes from its caller: a flag the caller omits has its default (R54, R451). -/
def Flags.ofCaller (remap cont throwU : Option Bool) : Flags :=
  { remapAliases := remap.getD Flags.default.remapAliases
    continueOnError := cont.getD Flags.default.continueOnError
    throwOnUnimplemented := throwU.getD Flags.default.throwOnUnimplemented }

/-- The flags as the control register's bits (R51): bit 0 `remap_aliases`, bit 1 `continue_on_error`, bit 2
`throw_on_unimplemented`. -/
def Flags.toBits (f : Flags) : BitVec 3 :=
  BitVec.ofBool f.throwOnUnimplemented ++ BitVec.ofBool f.continueOnError ++ BitVec.ofBool f.remapAliases

/-- The flags a control-register value gives; every combination is legal (R51). -/
def Flags.ofBits (b : BitVec 3) : Flags :=
  { remapAliases := b.getLsbD 0, continueOnError := b.getLsbD 1, throwOnUnimplemented := b.getLsbD 2 }

end Sys2Proof.Machine
end

