-- ==== Sys2Proof/Machine/State.lean ====
section
/-! DEFINITION. The state of the decode unit. The decode core holds none (spec/10_state.md R30); what the machine holds
is the sequencer's state for the length of one call (R50, R51) and the three fields of the MODEL's own that its comments
name. Faults and refusals are the closed lists below. -/

namespace Sys2Proof.Machine

/-- The input buffer `B` (R80): `len` bytes at the offsets `0 .. len-1`, as a list of (offset, byte) cells. An offset
below `len` that is not listed holds the byte 0; an offset from `len` up does not exist (log entry 12). -/
structure Memory where
  len : Nat
  cells : List Host.Cell
deriving DecidableEq, Repr, Inhabited

/-- The two shapes of a call (R92 eager, R93 lazy). -/
inductive Shape where
  | eager | lazy
deriving DecidableEq, Repr, Inhabited

/-- `status` (R50): whether the call continues, ended normally, or ended with a surfaced error. -/
inductive Status where
  | running
  | done
  | failed (e : CallError)
deriving DecidableEq, Repr, Inhabited

/-- What the unit hands its caller (R92, R93): a pull's `Item`, `End` or `Error`, an eager call's `(out, va)`, or an
eager call's surfaced error (`error` too). -/
inductive Reply where
  | item (r : Record)
  | streamEnd
  | error (e : CallError)
  | returned (out : List Record) (startVa : Addr)
deriving DecidableEq, Repr, Inhabited

/-- Why the machine stops. The spec gives the unit no trap that stops it (R411: a surfaced error is a state), so both
arise only in states no run reaches (log entry 15). -/
inductive Fault where
  /-- Raised by the fetch when a running call's offset is not a multiple of 4, against R50 and R91's requirement. Safe. -/
  | misalignedOffset
  /-- Raised by the fetch when a running call's word would reach past `B`, where `MemRead` is not defined (R80). Safe. -/
  | outsideBuffer
deriving DecidableEq, Repr

/-- What the model gives no meaning. -/
inductive Refusal where
  /-- Raised by no instruction: the dispatch has an arm with a meaning for every constructor. Safe. -/
  | notModelled (mnemonic : String)
  /-- Raised by the step when `B` was written while the call was in progress: "A model refuses that case" (R96, R454). Safe. -/
  | bufferWritten
deriving DecidableEq, Repr

/-- The machine's state: the sequencer's (R50, R51, R80) and three fields of the model's own. -/
structure State where
  /-- Which of the two shapes the call has (R92, R93). -/
  shape : Shape
  /-- `B` (R50, R80), read-only to the unit. -/
  mem : Memory
  /-- `va`, the virtual address of `B[0]` (R50). -/
  va : Addr
  /-- The policy flags (R51). -/
  flags : Flags
  /-- `i`, the byte offset of the next word to decode (R50, R52). -/
  i : Nat
  /-- `out`, the records appended so far, oldest first (R50). -/
  out : List Record
  /-- `status` (R50). -/
  status : Status
  /-- The MODEL's own: what the last step handed the caller, the unit's output port (log entry 7). -/
  reply : Option Reply
  /-- The MODEL's own: `B` was written since the call began or the stream was created (R96, log entry 8). -/
  bufWritten : Bool
deriving DecidableEq, Repr

/-- What one step of a state does: the case split of R92's loop and R93's `Pull`. -/
inductive Phase where
  | written
  | ended
  | structural
  | atEnd
  | word (w : Word)
  | broken (f : Fault)
deriving DecidableEq, Repr

/-- The machine right after reset (R451): `i = 0`, `out` empty, `status = Running`, the flags at their defaults. The
caller's inputs, which R451 leaves to the caller, are the ones log entry 4 names: an eager call on the empty buffer at
`va = 0`; nothing has been handed over yet. -/
def State.reset : State :=
  { shape := .eager, mem := { len := 0, cells := [] }, va := 0, flags := {}, i := 0, out := [], status := .running,
    reply := none, bufWritten := false }

end Sys2Proof.Machine
end

