-- ==== Sys2Proof/Machine/Ops.lean ====
section
/-! DEFINITION. The named operations: the buffer (spec/20_memory.md R80–R86), the records the sequencer builds and its
policy functions (60_exceptions.md R406–R409, R417, R418), one sequencer word (20_memory.md R91), SURFACING an error,
the unit's only trap (R411), with what a caller may do after it (R412), the end of a call (R92, R93), the start of one
(70_reset_and_hazards.md R451), a write of the buffer from outside (R96), and what a step is about to do. -/

namespace Sys2Proof.Machine

open Sys2Proof

/-! ### The buffer -/

/-- The byte the cells hold at an offset: 0 where they list none (log entry 12). -/
def cellAt : List Host.Cell → Nat → Byte
  | [], _ => 0#8
  | (k, b) :: cs, a => if k = a then b else cellAt cs a

/-- `MemRead(a, 1)` (R80): defined only for `0 ≤ a < len(B)`. -/
def Memory.read (m : Memory) (a : Nat) : Option Byte := if a < m.len then some (cellAt m.cells a) else none

/-- `word(i)` (R81), where its four bytes exist. -/
def Memory.readWord (m : Memory) (a : Nat) : Option Word :=
  match m.read a, m.read (a + 1), m.read (a + 2), m.read (a + 3) with
  | some b0, some b1, some b2, some b3 => some (wordOfBytes b0 b1 b2 b3)
  | _, _, _, _ => none

/-- The cells of a byte sequence laid out from offset `k` up; a byte 0 is not listed. -/
def cellsFrom (k : Nat) : List Byte → List Host.Cell
  | [] => []
  | b :: bs => if b = 0#8 then cellsFrom (k + 1) bs else (k, b) :: cellsFrom (k + 1) bs

/-- The buffer a caller hands over as a byte sequence (R80). -/
def Memory.ofBytes (bs : List Byte) : Memory := { len := bs.length, cells := cellsFrom 0 bs }

/-- The buffer's bytes, `B[0] .. B[len-1]`. -/
def Memory.bytes (m : Memory) : List Byte := (List.range m.len).map (cellAt m.cells)

/-- The cells with the byte at one offset replaced, still in rising order and without a byte 0. -/
def setCell (a : Nat) (b : Byte) : List Host.Cell → List Host.Cell
  | [] => if b = 0#8 then [] else [(a, b)]
  | (k, c) :: cs =>
    if a < k then (if b = 0#8 then (k, c) :: cs else (a, b) :: (k, c) :: cs)
    else if a = k then (if b = 0#8 then cs else (a, b) :: cs)
    else (k, c) :: setCell a b cs

/-- The buffer with one byte replaced; outside `0 .. len-1` there is no byte to replace. Only the world outside the
unit does this: no rule of the unit writes `B` (R80). -/
def Memory.write (m : Memory) (a : Nat) (b : Byte) : Memory :=
  if a < m.len then { m with cells := setCell a b m.cells } else m

/-- The buffer with the four bytes of a word stored from an offset up, as the buffer stores them (R81). -/
def Memory.writeWord (m : Memory) (a : Nat) (w : Word) : Memory :=
  (((m.write a (byteOfWord w 0)).write (a + 1) (byteOfWord w 1)).write (a + 2) (byteOfWord w 2)).write (a + 3)
    (byteOfWord w 3)

/-- The buffer lengthened to at least `n` bytes, the new ones 0. -/
def Memory.grow (m : Memory) (n : Nat) : Memory := { m with len := max m.len n }

/-- The cells' canonical form from offset `lo` up: offsets strictly rising and below `len`, no byte 0 listed. -/
def cellsWf (lo len : Nat) : List Host.Cell → Bool
  | [] => true
  | (k, b) :: cs => decide (lo ≤ k) && decide (k < len) && decide (b ≠ 0#8) && cellsWf (k + 1) len cs

/-- The canonical form of a buffer: equal buffers are equal data. -/
def Memory.wf (m : Memory) : Bool := cellsWf 0 m.len m.cells

/-! ### Records the sequencer builds, and its policy -/

/-- `INVALID_REC` (R417): the record `EMPTY`. -/
def invalidRec : Record := Record.empty

/-- `UNIMPL_REC(kind)` (R418). -/
def unimplRec (k : UnimplKind) : Record :=
  { Record.empty with mnemonic := .unimplemented, category := some (.unimpl k) }

/-- `AliasRemap` (R409): any total, pure function from a record to a record that leaves `address` unchanged, here the
OPEN rewrite with the address put back (log entry 3) and R43's law kept (log entry 5). -/
def aliasRemap (r : Record) : Record := { (Config.aliasRewrite r).withPreIndexLaw with address := r.address }

/-- `Collab(u)(I)` (R177), its record under R43's law (log entry 5). -/
def collabResult (u : DelegateUnit) (w : Word) : DecodeResult :=
  match Config.collab u w with
  | .ok r => .ok r.withPreIndexLaw
  | .undefined reason => .undefined reason
  | .unimplemented kind => .unimplemented kind
  | .unexpected e => .unexpected e

/-- `DecodeFull(I)` (R177), from the core's output for the word. -/
def decodeFull (w : Word) : RouterOut → DecodeResult
  | .ok r => .ok r
  | .undefined reason => .undefined reason
  | .unimplemented kind => .unimplemented kind
  | .delegate u => collabResult u w

/-- `OnUndefined` (R406). -/
def onUndefined (f : Flags) (w : Word) (i : Nat) (reason : UndefReason) : Except CallError Record :=
  if f.continueOnError then .ok invalidRec else .error (.undefined w i reason)

/-- `OnUnexpected` (R407). -/
def onUnexpected (f : Flags) (w : Word) (i : Nat) (va : Addr) (e : Nat) : Except CallError Record :=
  if f.continueOnError then .ok invalidRec else .error (.unexpected w i va e)

/-- Steps 3 and 4 of `SeqWord` (R91): the record a decode result becomes, or the error it surfaces. -/
def recordOf (f : Flags) (va : Addr) (i : Nat) (w : Word) : DecodeResult → Except CallError Record
  | .ok r => .ok r
  | .undefined reason => onUndefined f w i reason
  | .unexpected e => onUnexpected f w i va e
  | .unimplemented kind => .ok (unimplRec kind)

/-- Steps 5 to 7 of `SeqWord` (R91): the address stamp (R84), the throw-on-unimplemented check (R408), the remap
(R409). -/
def finishRecord (f : Flags) (va : Addr) (i : Nat) (w : Word) (r : Record) : Except CallError Record :=
  let stamped : Record := { r with address := va + BitVec.ofNat 64 i }
  if f.throwOnUnimplemented ∧ stamped.mnemonic = .unimplemented then .error (.unimplemented w i stamped.category)
  else .ok (if f.remapAliases then aliasRemap stamped else stamped)

/-- `SeqWord` (R91) from step 3 on, in the document's order: the record to append, or the surfaced error. -/
def seqRecord (f : Flags) (va : Addr) (i : Nat) (w : Word) (d : DecodeResult) : Except CallError Record :=
  match recordOf f va i w d with
  | .ok r => finishRecord f va i w r
  | .error e => .error e

/-! ### The sequencer's state changes -/

/-- Step 8 of R91 and the advance of R92 and R93: the record is appended, `i` moves to the next word, and in the lazy
shape the pull answers `Item(rec)` (log entries 6, 7). -/
def State.append (s : State) (r : Record) : State :=
  { s with
    out := s.out ++ [r]
    i := s.i + 4
    reply := match s.shape with
      | .lazy => some (.item r)
      | .eager => s.reply }

/-- TAKING THE UNIT'S ONLY TRAP, surfacing an error (R411): `status` becomes `Failed(E)` and nothing else is saved. The
eager shape discards the records appended so far and returns `E` alone (R92); the lazy shape's pull answers `Error(E)`
and the records yielded stay with the consumer (R93). -/
def State.surface (s : State) (e : CallError) : State :=
  { s with
    status := .failed e
    out := match s.shape with
      | .eager => []
      | .lazy => s.out
    reply := some (.error e) }

/-- The offset a surfaced error names; the Structural error names none (R403). -/
def CallError.offset : CallError → Option Nat
  | .structural _ => none
  | .undefined _ o _ => some o
  | .unimplemented _ o _ => some o
  | .unexpected _ o _ _ => some o

/-- The end of the words (R92, R93): `status` becomes `Done`; the eager call returns `(out, va)`, the pull `End`. -/
def State.finish (s : State) : State :=
  { s with
    status := .done
    reply := match s.shape with
      | .eager => some (.returned s.out s.va)
      | .lazy => some .streamEnd }

/-- A step after the call has ended: every further pull answers `End` (R93); an eager call has returned and nothing
happens (log entry 10). -/
def State.afterEnd (s : State) : State :=
  { s with
    reply := match s.shape with
      | .eager => s.reply
      | .lazy => some .streamEnd }

/-- The whole of `SeqWord` and the loop's body around it (R91–R93), from the core's output for the word. -/
def State.seqWord (s : State) (w : Word) (o : RouterOut) : State :=
  match seqRecord s.flags s.va s.i w (decodeFull w o) with
  | .ok r => s.append r
  | .error e => s.surface e

/-! ### The world outside the unit -/

/-- The start of an eager call, or the creation of a stream (R451). -/
def State.start (shape : Shape) (bs : List Byte) (va : Addr) (flags : Flags) : State :=
  { shape, mem := Memory.ofBytes bs, va, flags, i := 0, out := [], status := .running, reply := none,
    bufWritten := false }

/-- What stands for a return from the trap (R412): no call is resumed; a caller that wants the remaining words starts
a new call on `B[offset+4 ..]` with `va + offset + 4`. `none` where no surfaced error names an offset. -/
def State.restart (s : State) : Option State :=
  match s.status with
  | .failed e =>
    match e.offset with
    | some o => some (.start s.shape (s.mem.bytes.drop (o + 4)) (s.va + BitVec.ofNat 64 (o + 4)) s.flags)
    | none => none
  | .running => none
  | .done => none

/-- The world writes a byte of `B` (R96). While the call is in progress (for a stream: from its creation on), that is
what the step then refuses (R454, log entry 8). -/
def State.hostWrite (s : State) (a : Nat) (b : Byte) : State :=
  if a < s.mem.len then
    { s with mem := s.mem.write a b, bufWritten := s.bufWritten || decide (s.status = .running ∨ s.shape = .lazy) }
  else s

/-! ### What a step does -/

/-- The fetch (step 1 of R91): the word at the offset `i`, under R91's requirement on `i`. -/
def State.fetch (s : State) : Except Fault Word :=
  if s.i % 4 ≠ 0 then .error .misalignedOffset
  else match s.mem.readWord s.i with
    | some w => .ok w
    | none => .error .outsideBuffer

/-- What the next step does, first match wins: the refusal of R96, an ended call (R93), the Structural check before any
word (R83, R403, R410), the end of the words, or the word at `i`. -/
def State.phase (s : State) : Phase :=
  if s.bufWritten then .written
  else if s.status ≠ .running then .ended
  else if s.i = 0 ∧ s.mem.len % 4 ≠ 0 then .structural
  else if s.i = s.mem.len then .atEnd
  else match s.fetch with
    | .ok w => .word w
    | .error f => .broken f

/-- The entries the eager shape reserves for its output (R92, R451, R455): `len(B)/4`. -/
def State.reserved (s : State) : Nat :=
  match s.shape with
  | .eager => s.mem.len / 4
  | .lazy => 0

end Sys2Proof.Machine
end

