-- ==== Sys2Proof/Machine/Delegates.lean ====
section
/-! DEFINITION. The words the router hands to a collaborator (spec/40_dispatch.md R177): the sequencer goes on with the
collaborator's result. -/

namespace Sys2Proof.Machine

open Sys2Proof

/-- `Delegate(SVE)` (R170): the word goes to the collaborator (R177). -/
def execDelegateSve (word : Word) (s : State) : Host.Outcome State Fault Refusal :=
  .next (s.seqWord word (.delegate .sve))

/-- `Delegate(DPI)` (R170): the word goes to the collaborator (R177). -/
def execDelegateDpi (word : Word) (s : State) : Host.Outcome State Fault Refusal :=
  .next (s.seqWord word (.delegate .dpi))

/-- `Delegate(BES)` (R170): the word goes to the collaborator (R177). -/
def execDelegateBes (word : Word) (s : State) : Host.Outcome State Fault Refusal :=
  .next (s.seqWord word (.delegate .bes))

/-- `Delegate(DPR)` (R170): the word goes to the collaborator (R177). -/
def execDelegateDpr (word : Word) (s : State) : Host.Outcome State Fault Refusal :=
  .next (s.seqWord word (.delegate .dpr))

/-- `Delegate(SIMD)` (R170): the word goes to the collaborator (R177). -/
def execDelegateSimd (word : Word) (s : State) : Host.Outcome State Fault Refusal :=
  .next (s.seqWord word (.delegate .simd))

/-- `Delegate(SIMD_LS_SINGLE)` (R172): the word goes to the collaborator (R177). -/
def execDelegateSimdLsSingle (word : Word) (s : State) : Host.Outcome State Fault Refusal :=
  .next (s.seqWord word (.delegate .simdLsSingle))

/-- `Delegate(SIMD_LS_SINGLE_POST)` (R172): the word goes to the collaborator (R177). -/
def execDelegateSimdLsSinglePost (word : Word) (s : State) : Host.Outcome State Fault Refusal :=
  .next (s.seqWord word (.delegate .simdLsSinglePost))

end Sys2Proof.Machine
end

