-- ==== Sys2Proof/Machine/Indexed.lean ====
section
/-! DEFINITION. Load/store register, immediate post-indexed and pre-indexed (spec/45_ls_indexed.md R321–R339): each instruction is
one sequencer word over `idxOut`. -/

namespace Sys2Proof.Machine

open Sys2Proof

/-- STRB (immediate, post-indexed) (R321). -/
def execStrbPost (imm9 : BitVec 9) (rn rt : RegIx) (s : State) : Host.Outcome State Fault Refusal :=
  .next (s.seqWord (encodeImm9 ⟨0b00, 0b00, false⟩ imm9 0b01 rn rt)
    (idxOut .postIndex .strb ⟨0b00, 0b00, false⟩ imm9 rn rt))

/-- STRH (immediate, post-indexed) (R322). -/
def execStrhPost (imm9 : BitVec 9) (rn rt : RegIx) (s : State) : Host.Outcome State Fault Refusal :=
  .next (s.seqWord (encodeImm9 ⟨0b00, 0b01, false⟩ imm9 0b01 rn rt)
    (idxOut .postIndex .strh ⟨0b00, 0b01, false⟩ imm9 rn rt))

/-- STR (immediate, post-indexed) (R323). -/
def execStrPost (c : Cell) (imm9 : BitVec 9) (rn rt : RegIx) (s : State) : Host.Outcome State Fault Refusal :=
  .next (s.seqWord (encodeImm9 c imm9 0b01 rn rt)
    (idxOut .postIndex .str c imm9 rn rt))

/-- LDRB (immediate, post-indexed) (R324). -/
def execLdrbPost (imm9 : BitVec 9) (rn rt : RegIx) (s : State) : Host.Outcome State Fault Refusal :=
  .next (s.seqWord (encodeImm9 ⟨0b01, 0b00, false⟩ imm9 0b01 rn rt)
    (idxOut .postIndex .ldrb ⟨0b01, 0b00, false⟩ imm9 rn rt))

/-- LDRH (immediate, post-indexed) (R325). -/
def execLdrhPost (imm9 : BitVec 9) (rn rt : RegIx) (s : State) : Host.Outcome State Fault Refusal :=
  .next (s.seqWord (encodeImm9 ⟨0b01, 0b01, false⟩ imm9 0b01 rn rt)
    (idxOut .postIndex .ldrh ⟨0b01, 0b01, false⟩ imm9 rn rt))

/-- LDR (immediate, post-indexed) (R326). -/
def execLdrPost (c : Cell) (imm9 : BitVec 9) (rn rt : RegIx) (s : State) : Host.Outcome State Fault Refusal :=
  .next (s.seqWord (encodeImm9 c imm9 0b01 rn rt)
    (idxOut .postIndex .ldr c imm9 rn rt))

/-- LDRSB (immediate, post-indexed) (R327). -/
def execLdrsbPost (c : Cell) (imm9 : BitVec 9) (rn rt : RegIx) (s : State) : Host.Outcome State Fault Refusal :=
  .next (s.seqWord (encodeImm9 c imm9 0b01 rn rt)
    (idxOut .postIndex .ldrsb c imm9 rn rt))

/-- LDRSH (immediate, post-indexed) (R328). -/
def execLdrshPost (c : Cell) (imm9 : BitVec 9) (rn rt : RegIx) (s : State) : Host.Outcome State Fault Refusal :=
  .next (s.seqWord (encodeImm9 c imm9 0b01 rn rt)
    (idxOut .postIndex .ldrsh c imm9 rn rt))

/-- LDRSW (immediate, post-indexed) (R329). -/
def execLdrswPost (imm9 : BitVec 9) (rn rt : RegIx) (s : State) : Host.Outcome State Fault Refusal :=
  .next (s.seqWord (encodeImm9 ⟨0b10, 0b10, false⟩ imm9 0b01 rn rt)
    (idxOut .postIndex .ldrsw ⟨0b10, 0b10, false⟩ imm9 rn rt))

/-- STRB (immediate, pre-indexed) (R331). -/
def execStrbPre (imm9 : BitVec 9) (rn rt : RegIx) (s : State) : Host.Outcome State Fault Refusal :=
  .next (s.seqWord (encodeImm9 ⟨0b00, 0b00, false⟩ imm9 0b11 rn rt)
    (idxOut .preIndex .strb ⟨0b00, 0b00, false⟩ imm9 rn rt))

/-- STRH (immediate, pre-indexed) (R332). -/
def execStrhPre (imm9 : BitVec 9) (rn rt : RegIx) (s : State) : Host.Outcome State Fault Refusal :=
  .next (s.seqWord (encodeImm9 ⟨0b00, 0b01, false⟩ imm9 0b11 rn rt)
    (idxOut .preIndex .strh ⟨0b00, 0b01, false⟩ imm9 rn rt))

/-- STR (immediate, pre-indexed) (R333). -/
def execStrPre (c : Cell) (imm9 : BitVec 9) (rn rt : RegIx) (s : State) : Host.Outcome State Fault Refusal :=
  .next (s.seqWord (encodeImm9 c imm9 0b11 rn rt)
    (idxOut .preIndex .str c imm9 rn rt))

/-- LDRB (immediate, pre-indexed) (R334). -/
def execLdrbPre (imm9 : BitVec 9) (rn rt : RegIx) (s : State) : Host.Outcome State Fault Refusal :=
  .next (s.seqWord (encodeImm9 ⟨0b01, 0b00, false⟩ imm9 0b11 rn rt)
    (idxOut .preIndex .ldrb ⟨0b01, 0b00, false⟩ imm9 rn rt))

/-- LDRH (immediate, pre-indexed) (R335). -/
def execLdrhPre (imm9 : BitVec 9) (rn rt : RegIx) (s : State) : Host.Outcome State Fault Refusal :=
  .next (s.seqWord (encodeImm9 ⟨0b01, 0b01, false⟩ imm9 0b11 rn rt)
    (idxOut .preIndex .ldrh ⟨0b01, 0b01, false⟩ imm9 rn rt))

/-- LDR (immediate, pre-indexed) (R336). -/
def execLdrPre (c : Cell) (imm9 : BitVec 9) (rn rt : RegIx) (s : State) : Host.Outcome State Fault Refusal :=
  .next (s.seqWord (encodeImm9 c imm9 0b11 rn rt)
    (idxOut .preIndex .ldr c imm9 rn rt))

/-- LDRSB (immediate, pre-indexed) (R337). -/
def execLdrsbPre (c : Cell) (imm9 : BitVec 9) (rn rt : RegIx) (s : State) : Host.Outcome State Fault Refusal :=
  .next (s.seqWord (encodeImm9 c imm9 0b11 rn rt)
    (idxOut .preIndex .ldrsb c imm9 rn rt))

/-- LDRSH (immediate, pre-indexed) (R338). -/
def execLdrshPre (c : Cell) (imm9 : BitVec 9) (rn rt : RegIx) (s : State) : Host.Outcome State Fault Refusal :=
  .next (s.seqWord (encodeImm9 c imm9 0b11 rn rt)
    (idxOut .preIndex .ldrsh c imm9 rn rt))

/-- LDRSW (immediate, pre-indexed) (R339). -/
def execLdrswPre (imm9 : BitVec 9) (rn rt : RegIx) (s : State) : Host.Outcome State Fault Refusal :=
  .next (s.seqWord (encodeImm9 ⟨0b10, 0b10, false⟩ imm9 0b11 rn rt)
    (idxOut .preIndex .ldrsw ⟨0b10, 0b10, false⟩ imm9 rn rt))

end Sys2Proof.Machine
end

