-- ==== Sys2Proof/Machine/Outcomes.lean ====
section
/-! DEFINITION. The words the router answers Undefined (spec/60_exceptions.md R401) or Unimplemented (R402) without decoding
operands: the sequencer makes each one a record or surfaces it (R406, R408). -/

namespace Sys2Proof.Machine

open Sys2Proof

/-- `Undefined(RESERVED_GROUP)` (R170). -/
def execUndefReservedGroup (word : Word) (s : State) : Host.Outcome State Fault Refusal :=
  .next (s.seqWord word (.undefined .reservedGroup))

/-- `Undefined(UNALLOCATED_TYPE)` (R170). -/
def execUndefUnallocatedType (word : Word) (s : State) : Host.Outcome State Fault Refusal :=
  .next (s.seqWord word (.undefined .unallocatedType))

/-- `Undefined(SIMD_LS_STRUCT)` (R172). -/
def execUndefSimdLsStruct (word : Word) (s : State) : Host.Outcome State Fault Refusal :=
  .next (s.seqWord word (.undefined .simdLsStruct))

/-- `Undefined(PAIR_OPC11)` (R213). -/
def execUndefPairOpc11 (word : Word) (s : State) : Host.Outcome State Fault Refusal :=
  .next (s.seqWord word (.undefined .pairOpc11))

/-- `Undefined(LS_UIMM_CELL)` (R241). -/
def execUndefLsUimmCell (word : Word) (s : State) : Host.Outcome State Fault Refusal :=
  .next (s.seqWord word (.undefined .lsUimmCell))

/-- `Undefined(LS_REGOFF_CELL)` (R272). -/
def execUndefLsRegoffCell (word : Word) (s : State) : Host.Outcome State Fault Refusal :=
  .next (s.seqWord word (.undefined .lsRegoffCell))

/-- `Undefined(LS_UNSCALED_CELL)` (R301). -/
def execUndefLsUnscaledCell (word : Word) (s : State) : Host.Outcome State Fault Refusal :=
  .next (s.seqWord word (.undefined .lsUnscaledCell))

/-- `Undefined(LS_INDEXED_CELL)` (R340). -/
def execUndefLsIndexedCell (word : Word) (s : State) : Host.Outcome State Fault Refusal :=
  .next (s.seqWord word (.undefined .lsIndexedCell))

/-- `Unimplemented(SME)` (R170). -/
def execUnimplSme (word : Word) (s : State) : Host.Outcome State Fault Refusal :=
  .next (s.seqWord word (.unimplemented .sme))

/-- `Unimplemented(MEMORY_TAGS)` (R171). -/
def execUnimplMemoryTags (word : Word) (s : State) : Host.Outcome State Fault Refusal :=
  .next (s.seqWord word (.unimplemented .memoryTags))

/-- `Unimplemented(EXCLUSIVE_PAIR)` (R171). -/
def execUnimplExclusivePair (word : Word) (s : State) : Host.Outcome State Fault Refusal :=
  .next (s.seqWord word (.unimplemented .exclusivePair))

/-- `Unimplemented(EXCL_ORDERED_CAS)` (R171; no word reaches it, R175). -/
def execUnimplExclOrderedCas (word : Word) (s : State) : Host.Outcome State Fault Refusal :=
  .next (s.seqWord word (.unimplemented .exclOrderedCas))

/-- `Unimplemented(LDAPR_LITERAL_MEMCPY)` (R171). -/
def execUnimplLdaprLiteralMemcpy (word : Word) (s : State) : Host.Outcome State Fault Refusal :=
  .next (s.seqWord word (.unimplemented .ldaprLiteralMemcpy))

/-- `Unimplemented(NOALLOC_PAIR)` (R173). -/
def execUnimplNoallocPair (word : Word) (s : State) : Host.Outcome State Fault Refusal :=
  .next (s.seqWord word (.unimplemented .noallocPair))

/-- `Unimplemented(ATOMIC)` (R174). -/
def execUnimplAtomic (word : Word) (s : State) : Host.Outcome State Fault Refusal :=
  .next (s.seqWord word (.unimplemented .atomic))

/-- `Unimplemented(PAC)` (R174). -/
def execUnimplPac (word : Word) (s : State) : Host.Outcome State Fault Refusal :=
  .next (s.seqWord word (.unimplemented .pac))

/-- `Unimplemented(UNPRIVILEGED)` (R174). -/
def execUnimplUnprivileged (word : Word) (s : State) : Host.Outcome State Fault Refusal :=
  .next (s.seqWord word (.unimplemented .unprivileged))

end Sys2Proof.Machine
end

