-- ==== Sys2Proof/Machine/Pairs.lean ====
section
/-! DEFINITION. Load/store register pair (spec/41_pairs.md R201–R212): each instruction is one sequencer word over `pairOut`. -/

namespace Sys2Proof.Machine

open Sys2Proof

/-- STP, post-indexed (R201): `PairDecode(I, PostIndex)` (R200). -/
def execStpPost (opc : BitVec 2) (v : Bool) (imm7 : BitVec 7) (rt2 rn rt : RegIx) (s : State) :
    Host.Outcome State Fault Refusal :=
  .next (s.seqWord (encodePair opc v 0b01 false imm7 rt2 rn rt)
    (pairOut .stp .postIndex opc v imm7 rt2 rn rt))

/-- STP, signed offset (R202): `PairDecode(I, Offset)` (R200). -/
def execStpOffset (opc : BitVec 2) (v : Bool) (imm7 : BitVec 7) (rt2 rn rt : RegIx) (s : State) :
    Host.Outcome State Fault Refusal :=
  .next (s.seqWord (encodePair opc v 0b10 false imm7 rt2 rn rt)
    (pairOut .stp .offset opc v imm7 rt2 rn rt))

/-- STP, pre-indexed (R203): `PairDecode(I, PreIndex)` (R200). -/
def execStpPre (opc : BitVec 2) (v : Bool) (imm7 : BitVec 7) (rt2 rn rt : RegIx) (s : State) :
    Host.Outcome State Fault Refusal :=
  .next (s.seqWord (encodePair opc v 0b11 false imm7 rt2 rn rt)
    (pairOut .stp .preIndex opc v imm7 rt2 rn rt))

/-- LDP, post-indexed (R204): `PairDecode(I, PostIndex)` (R200). -/
def execLdpPost (opc : BitVec 2) (v : Bool) (imm7 : BitVec 7) (rt2 rn rt : RegIx) (s : State) :
    Host.Outcome State Fault Refusal :=
  .next (s.seqWord (encodePair opc v 0b01 true imm7 rt2 rn rt)
    (pairOut .ldp .postIndex opc v imm7 rt2 rn rt))

/-- LDP, signed offset (R205): `PairDecode(I, Offset)` (R200). -/
def execLdpOffset (opc : BitVec 2) (v : Bool) (imm7 : BitVec 7) (rt2 rn rt : RegIx) (s : State) :
    Host.Outcome State Fault Refusal :=
  .next (s.seqWord (encodePair opc v 0b10 true imm7 rt2 rn rt)
    (pairOut .ldp .offset opc v imm7 rt2 rn rt))

/-- LDP, pre-indexed (R206): `PairDecode(I, PreIndex)` (R200). -/
def execLdpPre (opc : BitVec 2) (v : Bool) (imm7 : BitVec 7) (rt2 rn rt : RegIx) (s : State) :
    Host.Outcome State Fault Refusal :=
  .next (s.seqWord (encodePair opc v 0b11 true imm7 rt2 rn rt)
    (pairOut .ldp .preIndex opc v imm7 rt2 rn rt))

/-- STGP, post-indexed (R207): `PairDecode(I, PostIndex)` (R200). -/
def execStgpPost (imm7 : BitVec 7) (rt2 rn rt : RegIx) (s : State) : Host.Outcome State Fault Refusal :=
  .next (s.seqWord (encodePair 0b01 false 0b01 false imm7 rt2 rn rt)
    (pairOut .stgp .postIndex 0b01 false imm7 rt2 rn rt))

/-- STGP, signed offset (R208): `PairDecode(I, Offset)` (R200). -/
def execStgpOffset (imm7 : BitVec 7) (rt2 rn rt : RegIx) (s : State) : Host.Outcome State Fault Refusal :=
  .next (s.seqWord (encodePair 0b01 false 0b10 false imm7 rt2 rn rt)
    (pairOut .stgp .offset 0b01 false imm7 rt2 rn rt))

/-- STGP, pre-indexed (R209): `PairDecode(I, PreIndex)` (R200). -/
def execStgpPre (imm7 : BitVec 7) (rt2 rn rt : RegIx) (s : State) : Host.Outcome State Fault Refusal :=
  .next (s.seqWord (encodePair 0b01 false 0b11 false imm7 rt2 rn rt)
    (pairOut .stgp .preIndex 0b01 false imm7 rt2 rn rt))

/-- LDPSW, post-indexed (R210): `PairDecode(I, PostIndex)` (R200). -/
def execLdpswPost (imm7 : BitVec 7) (rt2 rn rt : RegIx) (s : State) : Host.Outcome State Fault Refusal :=
  .next (s.seqWord (encodePair 0b01 false 0b01 true imm7 rt2 rn rt)
    (pairOut .ldpsw .postIndex 0b01 false imm7 rt2 rn rt))

/-- LDPSW, signed offset (R211): `PairDecode(I, Offset)` (R200). -/
def execLdpswOffset (imm7 : BitVec 7) (rt2 rn rt : RegIx) (s : State) : Host.Outcome State Fault Refusal :=
  .next (s.seqWord (encodePair 0b01 false 0b10 true imm7 rt2 rn rt)
    (pairOut .ldpsw .offset 0b01 false imm7 rt2 rn rt))

/-- LDPSW, pre-indexed (R212): `PairDecode(I, PreIndex)` (R200). -/
def execLdpswPre (imm7 : BitVec 7) (rt2 rn rt : RegIx) (s : State) : Host.Outcome State Fault Refusal :=
  .next (s.seqWord (encodePair 0b01 false 0b11 true imm7 rt2 rn rt)
    (pairOut .ldpsw .preIndex 0b01 false imm7 rt2 rn rt))

end Sys2Proof.Machine
end

