-- ==== Sys2Proof/Machine/RegisterOffset.lean ====
section
/-! DEFINITION. Load/store register, register offset (spec/43_ls_register_offset.md R262–R271): each instruction is one
sequencer word over `regoffOut`; PRFM builds no record (R271). -/

namespace Sys2Proof.Machine

open Sys2Proof

/-- STRB (register offset) (R262). -/
def execStrbRegoff (rm : RegIx) (option : BitVec 3) (sBit : Bool) (rn rt : RegIx) (s : State) :
    Host.Outcome State Fault Refusal :=
  .next (s.seqWord (encodeRegoff ⟨0b00, 0b00, false⟩ rm option sBit rn rt)
    (regoffOut .strb ⟨0b00, 0b00, false⟩ rm option sBit rn rt))

/-- STRH (register offset) (R263). -/
def execStrhRegoff (rm : RegIx) (option : BitVec 3) (sBit : Bool) (rn rt : RegIx) (s : State) :
    Host.Outcome State Fault Refusal :=
  .next (s.seqWord (encodeRegoff ⟨0b00, 0b01, false⟩ rm option sBit rn rt)
    (regoffOut .strh ⟨0b00, 0b01, false⟩ rm option sBit rn rt))

/-- STR (register offset) (R264). -/
def execStrRegoff (c : Cell) (rm : RegIx) (option : BitVec 3) (sBit : Bool) (rn rt : RegIx) (s : State) :
    Host.Outcome State Fault Refusal :=
  .next (s.seqWord (encodeRegoff c rm option sBit rn rt)
    (regoffOut .str c rm option sBit rn rt))

/-- LDRB (register offset) (R265). -/
def execLdrbRegoff (rm : RegIx) (option : BitVec 3) (sBit : Bool) (rn rt : RegIx) (s : State) :
    Host.Outcome State Fault Refusal :=
  .next (s.seqWord (encodeRegoff ⟨0b01, 0b00, false⟩ rm option sBit rn rt)
    (regoffOut .ldrb ⟨0b01, 0b00, false⟩ rm option sBit rn rt))

/-- LDRH (register offset) (R266). -/
def execLdrhRegoff (rm : RegIx) (option : BitVec 3) (sBit : Bool) (rn rt : RegIx) (s : State) :
    Host.Outcome State Fault Refusal :=
  .next (s.seqWord (encodeRegoff ⟨0b01, 0b01, false⟩ rm option sBit rn rt)
    (regoffOut .ldrh ⟨0b01, 0b01, false⟩ rm option sBit rn rt))

/-- LDR (register offset) (R267). -/
def execLdrRegoff (c : Cell) (rm : RegIx) (option : BitVec 3) (sBit : Bool) (rn rt : RegIx) (s : State) :
    Host.Outcome State Fault Refusal :=
  .next (s.seqWord (encodeRegoff c rm option sBit rn rt)
    (regoffOut .ldr c rm option sBit rn rt))

/-- LDRSB (register offset) (R268). -/
def execLdrsbRegoff (c : Cell) (rm : RegIx) (option : BitVec 3) (sBit : Bool) (rn rt : RegIx) (s : State) :
    Host.Outcome State Fault Refusal :=
  .next (s.seqWord (encodeRegoff c rm option sBit rn rt)
    (regoffOut .ldrsb c rm option sBit rn rt))

/-- LDRSH (register offset) (R269). -/
def execLdrshRegoff (c : Cell) (rm : RegIx) (option : BitVec 3) (sBit : Bool) (rn rt : RegIx) (s : State) :
    Host.Outcome State Fault Refusal :=
  .next (s.seqWord (encodeRegoff c rm option sBit rn rt)
    (regoffOut .ldrsh c rm option sBit rn rt))

/-- LDRSW (register offset) (R270). -/
def execLdrswRegoff (rm : RegIx) (option : BitVec 3) (sBit : Bool) (rn rt : RegIx) (s : State) :
    Host.Outcome State Fault Refusal :=
  .next (s.seqWord (encodeRegoff ⟨0b10, 0b10, false⟩ rm option sBit rn rt)
    (regoffOut .ldrsw ⟨0b10, 0b10, false⟩ rm option sBit rn rt))

/-- PRFM (register offset): Unimplemented (R271). -/
def execPrfmRegoff (c : Cell) (rm : RegIx) (option : BitVec 3) (sBit : Bool) (rn rt : RegIx) (s : State) :
    Host.Outcome State Fault Refusal :=
  .next (s.seqWord (encodeRegoff c rm option sBit rn rt)
    (.unimplemented .prfm))

end Sys2Proof.Machine
end

