-- ==== Sys2Proof/Machine/Unscaled.lean ====
section
/-! DEFINITION. Load/store register, unscaled immediate (spec/44_ls_unscaled.md R291–R300): each instruction is one sequencer
word over `unscOut`; PRFUM builds no record (R300). -/

namespace Sys2Proof.Machine

open Sys2Proof

/-- STURB (unscaled immediate) (R291). -/
def execSturb (imm9 : BitVec 9) (rn rt : RegIx) (s : State) : Host.Outcome State Fault Refusal :=
  .next (s.seqWord (encodeImm9 ⟨0b00, 0b00, false⟩ imm9 0b00 rn rt)
    (unscOut .strb ⟨0b00, 0b00, false⟩ imm9 rn rt))

/-- STURH (unscaled immediate) (R292). -/
def execSturh (imm9 : BitVec 9) (rn rt : RegIx) (s : State) : Host.Outcome State Fault Refusal :=
  .next (s.seqWord (encodeImm9 ⟨0b00, 0b01, false⟩ imm9 0b00 rn rt)
    (unscOut .strh ⟨0b00, 0b01, false⟩ imm9 rn rt))

/-- STUR (unscaled immediate) (R293). -/
def execStur (c : Cell) (imm9 : BitVec 9) (rn rt : RegIx) (s : State) : Host.Outcome State Fault Refusal :=
  .next (s.seqWord (encodeImm9 c imm9 0b00 rn rt)
    (unscOut .str c imm9 rn rt))

/-- LDURB (unscaled immediate) (R294). -/
def execLdurb (imm9 : BitVec 9) (rn rt : RegIx) (s : State) : Host.Outcome State Fault Refusal :=
  .next (s.seqWord (encodeImm9 ⟨0b01, 0b00, false⟩ imm9 0b00 rn rt)
    (unscOut .ldrb ⟨0b01, 0b00, false⟩ imm9 rn rt))

/-- LDURH (unscaled immediate) (R295). -/
def execLdurh (imm9 : BitVec 9) (rn rt : RegIx) (s : State) : Host.Outcome State Fault Refusal :=
  .next (s.seqWord (encodeImm9 ⟨0b01, 0b01, false⟩ imm9 0b00 rn rt)
    (unscOut .ldrh ⟨0b01, 0b01, false⟩ imm9 rn rt))

/-- LDUR (unscaled immediate) (R296). -/
def execLdur (c : Cell) (imm9 : BitVec 9) (rn rt : RegIx) (s : State) : Host.Outcome State Fault Refusal :=
  .next (s.seqWord (encodeImm9 c imm9 0b00 rn rt)
    (unscOut .ldr c imm9 rn rt))

/-- LDURSB (unscaled immediate) (R297). -/
def execLdursb (c : Cell) (imm9 : BitVec 9) (rn rt : RegIx) (s : State) : Host.Outcome State Fault Refusal :=
  .next (s.seqWord (encodeImm9 c imm9 0b00 rn rt)
    (unscOut .ldrsb c imm9 rn rt))

/-- LDURSH (unscaled immediate) (R298). -/
def execLdursh (c : Cell) (imm9 : BitVec 9) (rn rt : RegIx) (s : State) : Host.Outcome State Fault Refusal :=
  .next (s.seqWord (encodeImm9 c imm9 0b00 rn rt)
    (unscOut .ldrsh c imm9 rn rt))

/-- LDURSW (unscaled immediate) (R299). -/
def execLdursw (imm9 : BitVec 9) (rn rt : RegIx) (s : State) : Host.Outcome State Fault Refusal :=
  .next (s.seqWord (encodeImm9 ⟨0b10, 0b10, false⟩ imm9 0b00 rn rt)
    (unscOut .ldrsw ⟨0b10, 0b10, false⟩ imm9 rn rt))

/-- PRFUM: Unimplemented (R300). -/
def execPrfum (imm9 : BitVec 9) (rn rt : RegIx) (s : State) : Host.Outcome State Fault Refusal :=
  .next (s.seqWord (encodeImm9 ⟨0b11, 0b10, false⟩ imm9 0b00 rn rt)
    (.unimplemented .prfum))

end Sys2Proof.Machine
end

