-- ==== Sys2Proof/Machine/UnsignedImm.lean ====
section
/-! DEFINITION. Load/store register, unsigned immediate offset (spec/42_ls_unsigned_imm.md R231–R240): each instruction is
one sequencer word over `uimmOut`; PRFM builds no record (R240). -/

namespace Sys2Proof.Machine

open Sys2Proof

/-- STRB (unsigned immediate) (R231). -/
def execStrbUimm (imm12 : BitVec 12) (rn rt : RegIx) (s : State) : Host.Outcome State Fault Refusal :=
  .next (s.seqWord (encodeUimm ⟨0b00, 0b00, false⟩ imm12 rn rt)
    (uimmOut .strb ⟨0b00, 0b00, false⟩ imm12 rn rt))

/-- STRH (unsigned immediate) (R232). -/
def execStrhUimm (imm12 : BitVec 12) (rn rt : RegIx) (s : State) : Host.Outcome State Fault Refusal :=
  .next (s.seqWord (encodeUimm ⟨0b00, 0b01, false⟩ imm12 rn rt)
    (uimmOut .strh ⟨0b00, 0b01, false⟩ imm12 rn rt))

/-- STR (unsigned immediate) (R233). -/
def execStrUimm (c : Cell) (imm12 : BitVec 12) (rn rt : RegIx) (s : State) : Host.Outcome State Fault Refusal :=
  .next (s.seqWord (encodeUimm c imm12 rn rt)
    (uimmOut .str c imm12 rn rt))

/-- LDRB (unsigned immediate) (R234). -/
def execLdrbUimm (imm12 : BitVec 12) (rn rt : RegIx) (s : State) : Host.Outcome State Fault Refusal :=
  .next (s.seqWord (encodeUimm ⟨0b01, 0b00, false⟩ imm12 rn rt)
    (uimmOut .ldrb ⟨0b01, 0b00, false⟩ imm12 rn rt))

/-- LDRH (unsigned immediate) (R235). -/
def execLdrhUimm (imm12 : BitVec 12) (rn rt : RegIx) (s : State) : Host.Outcome State Fault Refusal :=
  .next (s.seqWord (encodeUimm ⟨0b01, 0b01, false⟩ imm12 rn rt)
    (uimmOut .ldrh ⟨0b01, 0b01, false⟩ imm12 rn rt))

/-- LDR (unsigned immediate) (R236). -/
def execLdrUimm (c : Cell) (imm12 : BitVec 12) (rn rt : RegIx) (s : State) : Host.Outcome State Fault Refusal :=
  .next (s.seqWord (encodeUimm c imm12 rn rt)
    (uimmOut .ldr c imm12 rn rt))

/-- LDRSB (unsigned immediate) (R237). -/
def execLdrsbUimm (c : Cell) (imm12 : BitVec 12) (rn rt : RegIx) (s : State) : Host.Outcome State Fault Refusal :=
  .next (s.seqWord (encodeUimm c imm12 rn rt)
    (uimmOut .ldrsb c imm12 rn rt))

/-- LDRSH (unsigned immediate) (R238). -/
def execLdrshUimm (c : Cell) (imm12 : BitVec 12) (rn rt : RegIx) (s : State) : Host.Outcome State Fault Refusal :=
  .next (s.seqWord (encodeUimm c imm12 rn rt)
    (uimmOut .ldrsh c imm12 rn rt))

/-- LDRSW (unsigned immediate) (R239). -/
def execLdrswUimm (imm12 : BitVec 12) (rn rt : RegIx) (s : State) : Host.Outcome State Fault Refusal :=
  .next (s.seqWord (encodeUimm ⟨0b10, 0b10, false⟩ imm12 rn rt)
    (uimmOut .ldrsw ⟨0b10, 0b10, false⟩ imm12 rn rt))

/-- PRFM (unsigned immediate): Unimplemented (R240). -/
def execPrfmUimm (imm12 : BitVec 12) (rn rt : RegIx) (s : State) : Host.Outcome State Fault Refusal :=
  .next (s.seqWord (encodeUimm ⟨0b11, 0b10, false⟩ imm12 rn rt)
    (.unimplemented .prfm))

end Sys2Proof.Machine
end

