-- ==== Sys2Proof/Machine/Dispatch.lean ====
section
/-! DEFINITION. One arm per instruction: each a direct call of that instruction's meaning. -/

namespace Sys2Proof.Machine

open Sys2Proof

def exec (i : Instr) (s : State) : Host.Outcome State Fault Refusal :=
  match i with
  | .stpPost opc v imm7 rt2 rn rt => Sys2Proof.Machine.execStpPost opc v imm7 rt2 rn rt s
  | .stpOffset opc v imm7 rt2 rn rt => Sys2Proof.Machine.execStpOffset opc v imm7 rt2 rn rt s
  | .stpPre opc v imm7 rt2 rn rt => Sys2Proof.Machine.execStpPre opc v imm7 rt2 rn rt s
  | .ldpPost opc v imm7 rt2 rn rt => Sys2Proof.Machine.execLdpPost opc v imm7 rt2 rn rt s
  | .ldpOffset opc v imm7 rt2 rn rt => Sys2Proof.Machine.execLdpOffset opc v imm7 rt2 rn rt s
  | .ldpPre opc v imm7 rt2 rn rt => Sys2Proof.Machine.execLdpPre opc v imm7 rt2 rn rt s
  | .stgpPost imm7 rt2 rn rt => Sys2Proof.Machine.execStgpPost imm7 rt2 rn rt s
  | .stgpOffset imm7 rt2 rn rt => Sys2Proof.Machine.execStgpOffset imm7 rt2 rn rt s
  | .stgpPre imm7 rt2 rn rt => Sys2Proof.Machine.execStgpPre imm7 rt2 rn rt s
  | .ldpswPost imm7 rt2 rn rt => Sys2Proof.Machine.execLdpswPost imm7 rt2 rn rt s
  | .ldpswOffset imm7 rt2 rn rt => Sys2Proof.Machine.execLdpswOffset imm7 rt2 rn rt s
  | .ldpswPre imm7 rt2 rn rt => Sys2Proof.Machine.execLdpswPre imm7 rt2 rn rt s
  | .strbUimm imm12 rn rt => Sys2Proof.Machine.execStrbUimm imm12 rn rt s
  | .strhUimm imm12 rn rt => Sys2Proof.Machine.execStrhUimm imm12 rn rt s
  | .strUimm c imm12 rn rt => Sys2Proof.Machine.execStrUimm c imm12 rn rt s
  | .ldrbUimm imm12 rn rt => Sys2Proof.Machine.execLdrbUimm imm12 rn rt s
  | .ldrhUimm imm12 rn rt => Sys2Proof.Machine.execLdrhUimm imm12 rn rt s
  | .ldrUimm c imm12 rn rt => Sys2Proof.Machine.execLdrUimm c imm12 rn rt s
  | .ldrsbUimm c imm12 rn rt => Sys2Proof.Machine.execLdrsbUimm c imm12 rn rt s
  | .ldrshUimm c imm12 rn rt => Sys2Proof.Machine.execLdrshUimm c imm12 rn rt s
  | .ldrswUimm imm12 rn rt => Sys2Proof.Machine.execLdrswUimm imm12 rn rt s
  | .prfmUimm imm12 rn rt => Sys2Proof.Machine.execPrfmUimm imm12 rn rt s
  | .strbRegoff rm option sBit rn rt => Sys2Proof.Machine.execStrbRegoff rm option sBit rn rt s
  | .strhRegoff rm option sBit rn rt => Sys2Proof.Machine.execStrhRegoff rm option sBit rn rt s
  | .strRegoff c rm option sBit rn rt => Sys2Proof.Machine.execStrRegoff c rm option sBit rn rt s
  | .ldrbRegoff rm option sBit rn rt => Sys2Proof.Machine.execLdrbRegoff rm option sBit rn rt s
  | .ldrhRegoff rm option sBit rn rt => Sys2Proof.Machine.execLdrhRegoff rm option sBit rn rt s
  | .ldrRegoff c rm option sBit rn rt => Sys2Proof.Machine.execLdrRegoff c rm option sBit rn rt s
  | .ldrsbRegoff c rm option sBit rn rt => Sys2Proof.Machine.execLdrsbRegoff c rm option sBit rn rt s
  | .ldrshRegoff c rm option sBit rn rt => Sys2Proof.Machine.execLdrshRegoff c rm option sBit rn rt s
  | .ldrswRegoff rm option sBit rn rt => Sys2Proof.Machine.execLdrswRegoff rm option sBit rn rt s
  | .prfmRegoff c rm option sBit rn rt => Sys2Proof.Machine.execPrfmRegoff c rm option sBit rn rt s
  | .sturb imm9 rn rt => Sys2Proof.Machine.execSturb imm9 rn rt s
  | .sturh imm9 rn rt => Sys2Proof.Machine.execSturh imm9 rn rt s
  | .stur c imm9 rn rt => Sys2Proof.Machine.execStur c imm9 rn rt s
  | .ldurb imm9 rn rt => Sys2Proof.Machine.execLdurb imm9 rn rt s
  | .ldurh imm9 rn rt => Sys2Proof.Machine.execLdurh imm9 rn rt s
  | .ldur c imm9 rn rt => Sys2Proof.Machine.execLdur c imm9 rn rt s
  | .ldursb c imm9 rn rt => Sys2Proof.Machine.execLdursb c imm9 rn rt s
  | .ldursh c imm9 rn rt => Sys2Proof.Machine.execLdursh c imm9 rn rt s
  | .ldursw imm9 rn rt => Sys2Proof.Machine.execLdursw imm9 rn rt s
  | .prfum imm9 rn rt => Sys2Proof.Machine.execPrfum imm9 rn rt s
  | .strbPost imm9 rn rt => Sys2Proof.Machine.execStrbPost imm9 rn rt s
  | .strhPost imm9 rn rt => Sys2Proof.Machine.execStrhPost imm9 rn rt s
  | .strPost c imm9 rn rt => Sys2Proof.Machine.execStrPost c imm9 rn rt s
  | .ldrbPost imm9 rn rt => Sys2Proof.Machine.execLdrbPost imm9 rn rt s
  | .ldrhPost imm9 rn rt => Sys2Proof.Machine.execLdrhPost imm9 rn rt s
  | .ldrPost c imm9 rn rt => Sys2Proof.Machine.execLdrPost c imm9 rn rt s
  | .ldrsbPost c imm9 rn rt => Sys2Proof.Machine.execLdrsbPost c imm9 rn rt s
  | .ldrshPost c imm9 rn rt => Sys2Proof.Machine.execLdrshPost c imm9 rn rt s
  | .ldrswPost imm9 rn rt => Sys2Proof.Machine.execLdrswPost imm9 rn rt s
  | .strbPre imm9 rn rt => Sys2Proof.Machine.execStrbPre imm9 rn rt s
  | .strhPre imm9 rn rt => Sys2Proof.Machine.execStrhPre imm9 rn rt s
  | .strPre c imm9 rn rt => Sys2Proof.Machine.execStrPre c imm9 rn rt s
  | .ldrbPre imm9 rn rt => Sys2Proof.Machine.execLdrbPre imm9 rn rt s
  | .ldrhPre imm9 rn rt => Sys2Proof.Machine.execLdrhPre imm9 rn rt s
  | .ldrPre c imm9 rn rt => Sys2Proof.Machine.execLdrPre c imm9 rn rt s
  | .ldrsbPre c imm9 rn rt => Sys2Proof.Machine.execLdrsbPre c imm9 rn rt s
  | .ldrshPre c imm9 rn rt => Sys2Proof.Machine.execLdrshPre c imm9 rn rt s
  | .ldrswPre imm9 rn rt => Sys2Proof.Machine.execLdrswPre imm9 rn rt s
  | .undefReservedGroup word => Sys2Proof.Machine.execUndefReservedGroup word s
  | .undefUnallocatedType word => Sys2Proof.Machine.execUndefUnallocatedType word s
  | .undefSimdLsStruct word => Sys2Proof.Machine.execUndefSimdLsStruct word s
  | .undefPairOpc11 word => Sys2Proof.Machine.execUndefPairOpc11 word s
  | .undefLsUimmCell word => Sys2Proof.Machine.execUndefLsUimmCell word s
  | .undefLsRegoffCell word => Sys2Proof.Machine.execUndefLsRegoffCell word s
  | .undefLsUnscaledCell word => Sys2Proof.Machine.execUndefLsUnscaledCell word s
  | .undefLsIndexedCell word => Sys2Proof.Machine.execUndefLsIndexedCell word s
  | .unimplSme word => Sys2Proof.Machine.execUnimplSme word s
  | .unimplMemoryTags word => Sys2Proof.Machine.execUnimplMemoryTags word s
  | .unimplExclusivePair word => Sys2Proof.Machine.execUnimplExclusivePair word s
  | .unimplExclOrderedCas word => Sys2Proof.Machine.execUnimplExclOrderedCas word s
  | .unimplLdaprLiteralMemcpy word => Sys2Proof.Machine.execUnimplLdaprLiteralMemcpy word s
  | .unimplNoallocPair word => Sys2Proof.Machine.execUnimplNoallocPair word s
  | .unimplAtomic word => Sys2Proof.Machine.execUnimplAtomic word s
  | .unimplPac word => Sys2Proof.Machine.execUnimplPac word s
  | .unimplUnprivileged word => Sys2Proof.Machine.execUnimplUnprivileged word s
  | .delegateSve word => Sys2Proof.Machine.execDelegateSve word s
  | .delegateDpi word => Sys2Proof.Machine.execDelegateDpi word s
  | .delegateBes word => Sys2Proof.Machine.execDelegateBes word s
  | .delegateDpr word => Sys2Proof.Machine.execDelegateDpr word s
  | .delegateSimd word => Sys2Proof.Machine.execDelegateSimd word s
  | .delegateSimdLsSingle word => Sys2Proof.Machine.execDelegateSimdLsSingle word s
  | .delegateSimdLsSinglePost word => Sys2Proof.Machine.execDelegateSimdLsSinglePost word s

end Sys2Proof.Machine
end

