-- ==== Sys2Proof/Machine/Step.lean ====
section
/-! DEFINITION. One step of the machine: one sequencer word, or one pull (spec/70_reset_and_hazards.md R455), and the
placing of one instruction where the step fetches. -/

namespace Sys2Proof.Machine

open Sys2Proof

/-- One step: `State.phase` says which of R92's and R93's cases holds, and a word is decoded and executed. -/
def step (s : State) : Host.Outcome State Fault Refusal :=
  match s.phase with
  | .written => .refused .bufferWritten
  | .ended => .next s.afterEnd
  | .structural => .next (s.surface (.structural s.mem.len))
  | .atEnd => .next s.finish
  | .broken f => .fault f
  | .word w => exec (decodeWord w) s

/-- `s` with the table's word `w` of `nbits` bits stored in the buffer where the next step fetches: at the word-aligned
offset `i`, in a buffer lengthened to a multiple of 4 that holds it, in a running call (log entry 13). -/
def State.withFetchWord (s : State) (nbits w : Nat) : State :=
  { s with
    mem := (s.mem.grow (max ((s.mem.len + 3) / 4 * 4) (s.i - s.i % 4 + 4))).writeWord (s.i - s.i % 4)
      (BitVec.ofNat 32 (w % 2 ^ nbits))
    i := s.i - s.i % 4
    status := .running
    bufWritten := false }

end Sys2Proof.Machine
end

