-- ==== Sys2Proof/Machine/Router.lean ====
section
/-! DEFINITION. The decode core as the pure function R30 and R31 (spec/10_state.md) say it is, `dispatch` from a word to
`RouterOut`: the dispatch tree of 40_dispatch.md R170–R174 with the leaf decoders of R200, R230, R260, R290 and R320,
node for node as the spec's pseudocode writes them. The step runs instructions through `decodeWord` and `exec`; this is
the same hardware seen from its output port, for statements about the core and for `seqCall`. -/

namespace Sys2Proof.Machine

open Sys2Proof

/-- `PairDecode(I, mode)` (R200). -/
def pairDecode (w : Word) (mode : MemMode) : RouterOut :=
  if fTop2 w = 0b11 then .undefined .pairOpc11
  else
    let m : Mnemonic :=
      if fTop2 w = 0b01 ∧ fV w = false then (if fL w then .ldpsw else .stgp) else (if fL w then .ldp else .stp)
    pairOut m mode (fTop2 w) (fV w) (fImm7 w) (fRt2 w) (fRn w) (fRt w)

/-- `UImmDecode(I)` (R230). -/
def uImmDecode (w : Word) : RouterOut :=
  match lutUimm (fCell w) with
  | .undefined => .undefined .lsUimmCell
  | .prefetch => .unimplemented .prfm
  | .op b => uimmOut b (fCell w) (fImm12 w) (fRn w) (fRt w)

/-- `RegOffDecode(I)` (R260). -/
def regOffDecode (w : Word) : RouterOut :=
  match lutReg (fCell w) with
  | .undefined => .undefined .lsRegoffCell
  | .prefetch => .unimplemented .prfm
  | .op b => regoffOut b (fCell w) (fRm w) (fOption w) (fS w) (fRn w) (fRt w)

/-- `UnscDecode(I)` (R290). -/
def unscDecode (w : Word) : RouterOut :=
  match lutUnsc (fCell w) with
  | .undefined => .undefined .lsUnscaledCell
  | .prefetch => .unimplemented .prfum
  | .op b => unscOut b (fCell w) (fImm9 w) (fRn w) (fRt w)

/-- `IdxDecode(I, mode)` (R320); `LUT_IDX` has no PRFM cell (R125). -/
def idxDecode (w : Word) (mode : MemMode) : RouterOut :=
  match lutIdx (fCell w) with
  | .undefined | .prefetch => .undefined .lsIndexedCell
  | .op b => idxOut mode b (fCell w) (fImm9 w) (fRn w) (fRt w)

/-- `SIMDStruct(I)` (R172). -/
def simdStruct (w : Word) : RouterOut :=
  if fOp2 w = 0b11 then .delegate .simdLsSinglePost
  else if fOp3Low w = 0 then .delegate .simdLsSingle
  else .undefined .simdLsStruct

/-- `PairSelect(I)` (R173). -/
def pairSelect (w : Word) : RouterOut :=
  if fOp2 w = 0b00 then .unimplemented .noallocPair
  else if fOp2 w = 0b01 then pairDecode w .postIndex
  else if fOp2 w = 0b10 then pairDecode w .offset
  else pairDecode w .preIndex

/-- `RegSelect(I)` (R174). -/
def regSelect (w : Word) : RouterOut :=
  if fOp2h w then uImmDecode w
  else if fB21 w then
    if fOp4 w = 0b00 then .unimplemented .atomic
    else if fOp4 w = 0b10 then regOffDecode w
    else .unimplemented .pac
  else
    if fOp4 w = 0b00 then unscDecode w
    else if fOp4 w = 0b01 then idxDecode w .postIndex
    else if fOp4 w = 0b10 then .unimplemented .unprivileged
    else idxDecode w .preIndex

/-- `LSClassify(I)` (R171), "first match wins"; the arm `0b00` is never reached (R175). -/
def lsClassify (w : Word) : RouterOut :=
  if fOp0 w &&& 0b1011 = 0 then simdStruct w
  else if fOp0 w = 0b1101 ∧ fV w = false ∧ fOp2h w = true ∧ fB21 w = true then .unimplemented .memoryTags
  else if fOp0 w &&& 0b1011 = 0b1000 then .unimplemented .exclusivePair
  else if fOp0Low w = 0b00 then .unimplemented .exclOrderedCas
  else if fOp0Low w = 0b01 then .unimplemented .ldaprLiteralMemcpy
  else if fOp0Low w = 0b10 then pairSelect w
  else regSelect w

/-- `Dispatch(I)` (R170), the decode core. -/
def dispatch (w : Word) : RouterOut :=
  if bitAt w 31 = false ∧ fT w = 0b0000 then .undefined .reservedGroup
  else if fT w = 0b0001 ∨ fT w = 0b0011 then .undefined .unallocatedType
  else if fT w = 0b0000 then .unimplemented .sme
  else if fT w = 0b0010 then .delegate .sve
  else if fT w = 0b1000 ∨ fT w = 0b1001 then .delegate .dpi
  else if fT w = 0b1010 ∨ fT w = 0b1011 then .delegate .bes
  else if fT w = 0b0100 ∨ fT w = 0b0110 ∨ fT w = 0b1100 ∨ fT w = 0b1110 then lsClassify w
  else if fT w = 0b0101 ∨ fT w = 0b1101 then .delegate .dpr
  else .delegate .simd

end Sys2Proof.Machine
end

