-- ==== Sys2Proof/Machine/Call.lean ====
section
/-! DEFINITION. The eager shape as ONE function, `SeqCall(B, va, flags)` (spec/20_memory.md R92), written from its
pseudocode over the decode core `dispatch`: what a whole run of the machine's steps is held against (R92–R94, R98). -/

namespace Sys2Proof.Machine

open Sys2Proof

/-- The loop of R92 from the offset `i`, on the bytes not yet decoded, with the records appended so far. -/
def seqLoop (va : Addr) (flags : Flags) (i : Nat) (out : List Record) : List Byte → Except CallError (List Record)
  | b0 :: b1 :: b2 :: b3 :: rest =>
    match seqRecord flags va i (wordOfBytes b0 b1 b2 b3)
        (decodeFull (wordOfBytes b0 b1 b2 b3) (dispatch (wordOfBytes b0 b1 b2 b3))) with
    | .ok r => seqLoop va flags (i + 4) (out ++ [r]) rest
    | .error e => .error e
  | _ => .ok out

/-- `SeqCall(B, va, flags)` (R92): the records and the start address, or the one surfaced error. -/
def seqCall (bs : List Byte) (va : Addr) (flags : Flags) : Except CallError (List Record × Addr) :=
  if bs.length % 4 ≠ 0 then .error (.structural bs.length)
  else match seqLoop va flags 0 [] bs with
    | .ok out => .ok (out, va)
    | .error e => .error e

end Sys2Proof.Machine
end

