-- ==== Sys2Proof/Machine/Codes.lean ====
section
/-! DEFINITION. The numeric codes of the enumerations on the output bus (spec/10_state.md R32, R42–R45;
60_exceptions.md R401, R402). No rule depends on them (R32); the model computes with the abstract values. -/

namespace Sys2Proof.Machine

/-- `base(f)` of the dense register enumeration (R32). -/
def Family.base : Family → Nat
  | .X => 1 | .W => 33 | .V => 65 | .B => 97 | .H => 129 | .S => 161 | .D => 193 | .SP => 225

/-- `code(NONE) = 0` and `code(Reg(f, n)) = base(f) + n`, in a 9-bit field (R32). -/
def RegId.code : RegId → BitVec 9
  | .none => 0
  | .reg f n => BitVec.ofNat 9 (f.base + n.toNat)

/-- The OpKind codes, 0 to 7 in the order listed (R42); a collaborator's kind carries its own code (log entry 9). -/
def OpKind.code : OpKind → Nat
  | .none => 0 | .register => 1 | .immediate => 2 | .memory => 3 | .floatImmediate => 4 | .shiftedImmediate => 5
  | .condition => 6 | .pageRelative => 7 | .collab k => 8 + k

/-- The MemoryAccessMode codes (R43). -/
def MemMode.code : MemMode → Nat
  | .offset => 0 | .preIndex => 1 | .postIndex => 2

/-- The mnemonic codes (R44): 64 and above are the collaborators'. -/
def Mnemonic.code : Mnemonic → Nat
  | .invalid => 0 | .unimplemented => 1
  | .str => 2 | .ldr => 3 | .strb => 4 | .ldrb => 5 | .strh => 6 | .ldrh => 7 | .ldrsb => 8 | .ldrsh => 9 | .ldrsw => 10
  | .stur => 11 | .ldur => 12 | .sturb => 13 | .sturh => 14 | .ldurb => 15 | .ldurh => 16
  | .ldursb => 17 | .ldursh => 18 | .ldursw => 19
  | .stp => 20 | .ldp => 21 | .stgp => 22 | .ldpsw => 23
  | .prfm => 24 | .prfum => 25
  | .collab k => 64 + k

/-- The extend codes, in a 4-bit field: `EXT(c)` = c, `NONE` = 8 (R45). -/
def Ext.code : Ext → BitVec 4
  | .none => 8
  | .ext c => c.setWidth 4

/-- The shift codes (R45). -/
def Shift.code : Shift → Nat
  | .none => 0 | .lsl => 1 | .lsr => 2 | .asr => 3 | .ror => 4

/-- The codes of the Undefined reasons (R401); `none` for a collaborator's own reason, which the spec does not
enumerate. -/
def UndefReason.code : UndefReason → Option Nat
  | .reservedGroup => some 1 | .unallocatedType => some 2 | .simdLsStruct => some 3 | .pairOpc11 => some 4
  | .lsUimmCell => some 5 | .lsRegoffCell => some 6 | .lsUnscaledCell => some 7 | .lsIndexedCell => some 8
  | .collab _ => Option.none

/-- The codes of the Unimplemented kinds (R402); `none` for a collaborator's own kind. -/
def UnimplKind.code : UnimplKind → Option Nat
  | .sme => some 1 | .memoryTags => some 2 | .exclusivePair => some 3 | .exclOrderedCas => some 4
  | .ldaprLiteralMemcpy => some 5 | .noallocPair => some 6 | .atomic => some 7 | .pac => some 8
  | .unprivileged => some 9 | .prfm => some 10 | .prfum => some 11
  | .collab _ => Option.none

end Sys2Proof.Machine
end

