-- ==== Sys2Proof/Safety.lean ====
section
/-! DEFINITION. The terms claims use: the records of the spec's instruction rules written out with the library's own sign
and zero extension, the state in which a record has been delivered or an error surfaced, what a collaborator's answer
leads to, the invariant of a call, the answers of several pulls, and the rows of the opcode table's cells. None of these
is called by the machine. -/

namespace Sys2Proof.Machine

open Sys2Proof

/-! ### Records -/

/-- A pair record as spec/41_pairs.md R200–R212 describe it: data registers in family `f`, offset `imm7` (signed) times
`scale`. -/
def pairRec (m : Mnemonic) (f : Family) (scale : Nat) (mode : MemMode) (imm7 : BitVec 7) (rt2 rn rt : RegIx) : Record :=
  { mnemonic := m, category := some .loadStore
    op0Kind := .register, op0Reg := .reg f rt
    op1Kind := .register, op1Reg := .reg f rt2
    op2Kind := .memory
    memBase := .reg .X rn
    memOffset := imm7.signExtend 64 * BitVec.ofNat 64 scale
    memMode := mode, memIsPreIndexed := decide (mode = .preIndex) }

/-- A single-register record as R230, R290 and R320 describe it. -/
def singleRec (m : Mnemonic) (f : Family) (offset : Imm) (mode : MemMode) (rn rt : RegIx) : Record :=
  { mnemonic := m, category := some .loadStore
    op0Kind := .register, op0Reg := .reg f rt
    op1Kind := .memory
    memBase := .reg .X rn
    memOffset := offset
    memMode := mode, memIsPreIndexed := decide (mode = .preIndex) }

/-- The amount of R261's table: 0 for `S = 0`, `a` for LSL with `S = 1`, and for an extend with `S = 1` what the OPEN
parameter `EXT_S1_AMOUNT` says. -/
def regoffAmount (a : Fin 5) (option : BitVec 3) (s : Bool) : Fin 5 :=
  if s = false then 0
  else if option = 0b011 then a
  else match Config.extS1Amount with
    | .sizeDerived => a
    | .zero => 0

/-- A register-offset record as R260 and the table of R261 describe it; `a` is the cell's `amt_size`. -/
def regoffRec (m : Mnemonic) (f : Family) (a : Fin 5) (rm : RegIx) (option : BitVec 3) (s : Bool) (rn rt : RegIx) :
    Record :=
  { mnemonic := m, category := some .loadStore
    op0Kind := .register, op0Reg := .reg f rt
    op1Kind := .memory
    memBase := .reg .X rn
    memAddendReg := .reg (if option.getLsbD 0 then .X else .W) rm
    memExtendType := if option = 0b011 then .none else .ext option
    memShiftType := if option = 0b011 then .lsl else .none
    memAmount := regoffAmount a option s }

/-- The five STP/LDP cells with family and scale (the table below R200). -/
def pairRows : List (BitVec 2 × Bool × Family × Nat) :=
  [(0b00, false, .W, 4), (0b00, true, .S, 4), (0b01, true, .D, 8), (0b10, false, .X, 8), (0b10, true, .V, 16)]

/-! The cells of the instructions that have several, each row with the encoding string's first ten bits `I[31:22]`, the
cell, the family of `Rt`, and a number: the shift of the offset (42_ls_unsigned_imm.md), or `amt_size`, the amount
(43_ls_register_offset.md); the immediate forms of 44 and 45 scale by nothing and use the family alone. -/

/-- The seven cells of STR, unsigned immediate (R233). -/
def strUimmRows : List (BitVec 10 × Cell × Family × Fin 5) :=
  [(0b1011100100, ⟨0b00, 0b10, false⟩, .W, 2), (0b1111100100, ⟨0b00, 0b11, false⟩, .X, 3),
   (0b0011110100, ⟨0b00, 0b00, true⟩, .B, 0), (0b0111110100, ⟨0b00, 0b01, true⟩, .H, 1),
   (0b1011110100, ⟨0b00, 0b10, true⟩, .S, 2), (0b1111110100, ⟨0b00, 0b11, true⟩, .D, 3),
   (0b0011110110, ⟨0b10, 0b00, true⟩, .V, 0)]

/-- The seven cells of LDR, unsigned immediate (R236). -/
def ldrUimmRows : List (BitVec 10 × Cell × Family × Fin 5) :=
  [(0b1011100101, ⟨0b01, 0b10, false⟩, .W, 2), (0b1111100101, ⟨0b01, 0b11, false⟩, .X, 3),
   (0b0011110101, ⟨0b01, 0b00, true⟩, .V, 0), (0b0111110101, ⟨0b01, 0b01, true⟩, .V, 1),
   (0b1011110101, ⟨0b01, 0b10, true⟩, .V, 2), (0b1111110101, ⟨0b01, 0b11, true⟩, .V, 3),
   (0b0011110111, ⟨0b11, 0b00, true⟩, .V, 0)]

/-- The two cells of LDRSB, unsigned immediate (R237). -/
def ldrsbUimmRows : List (BitVec 10 × Cell × Family × Fin 5) :=
  [(0b0011100110, ⟨0b10, 0b00, false⟩, .X, 0), (0b0011100111, ⟨0b11, 0b00, false⟩, .W, 0)]

/-- The two cells of LDRSH, unsigned immediate (R238). -/
def ldrshUimmRows : List (BitVec 10 × Cell × Family × Fin 5) :=
  [(0b0111100110, ⟨0b10, 0b01, false⟩, .X, 1), (0b0111100111, ⟨0b11, 0b01, false⟩, .W, 1)]

/-- The seven cells of STR and STUR in the other forms (R264, R293, R323, R333). -/
def strRows : List (BitVec 10 × Cell × Family × Fin 5) :=
  [(0b1011100000, ⟨0b00, 0b10, false⟩, .W, 2), (0b1111100000, ⟨0b00, 0b11, false⟩, .X, 3),
   (0b0011110000, ⟨0b00, 0b00, true⟩, .B, 0), (0b0111110000, ⟨0b00, 0b01, true⟩, .H, 1),
   (0b1011110000, ⟨0b00, 0b10, true⟩, .S, 2), (0b1111110000, ⟨0b00, 0b11, true⟩, .D, 3),
   (0b0011110010, ⟨0b10, 0b00, true⟩, .V, 0)]

/-- The seven cells of LDR and LDUR in the other forms; the 128-bit cell has amount 4 (R267, R296, R326, R336). -/
def ldrRows : List (BitVec 10 × Cell × Family × Fin 5) :=
  [(0b1011100001, ⟨0b01, 0b10, false⟩, .W, 2), (0b1111100001, ⟨0b01, 0b11, false⟩, .X, 3),
   (0b0011110001, ⟨0b01, 0b00, true⟩, .V, 0), (0b0111110001, ⟨0b01, 0b01, true⟩, .V, 1),
   (0b1011110001, ⟨0b01, 0b10, true⟩, .V, 2), (0b1111110001, ⟨0b01, 0b11, true⟩, .V, 3),
   (0b0011110011, ⟨0b11, 0b00, true⟩, .V, 4)]

/-- The two cells of LDRSB and LDURSB in the other forms (R268, R297, R327, R337). -/
def ldrsbRows : List (BitVec 10 × Cell × Family × Fin 5) :=
  [(0b0011100010, ⟨0b10, 0b00, false⟩, .X, 0), (0b0011100011, ⟨0b11, 0b00, false⟩, .W, 0)]

/-- The two cells of LDRSH and LDURSH in the other forms (R269, R298, R328, R338). -/
def ldrshRows : List (BitVec 10 × Cell × Family × Fin 5) :=
  [(0b0111100010, ⟨0b10, 0b01, false⟩, .X, 1), (0b0111100011, ⟨0b11, 0b01, false⟩, .W, 1)]

/-- The word `w` is the instruction `i`, and the decode core answers `r` for it. -/
def CoreGives (w : Word) (i : Instr) (r : Record) : Prop := decodeWord w = i ∧ dispatch w = .ok r

/-! ### What a word leads to -/

/-- The state in which the record `r` of the word at `i` has been delivered: stamped with `va + i` (R84), remapped where
`remap_aliases` is set (R409), appended, and in the lazy shape handed to the consumer; `i` moves by 4 and nothing else
changes (R52). -/
def State.delivered (s : State) (r : Record) : State :=
  let stamped : Record := { r with address := s.va + BitVec.ofNat 64 s.i }
  let final : Record := if s.flags.remapAliases then aliasRemap stamped else stamped
  { s with
    out := s.out ++ [final], i := s.i + 4
    reply := if s.shape = .lazy then some (.item final) else s.reply }

/-- The state in which the error `e` has been surfaced (R411): `Failed(E)`, the caller has `E`, the eager shape's
records are gone; nothing else changes. -/
def State.surfaced (s : State) (e : CallError) : State :=
  { s with status := .failed e, out := if s.shape = .eager then [] else s.out, reply := some (.error e) }

/-- What a collaborator's answer for the word `w` at `i` leads to (R177, R406–R408, R417, R418). -/
def State.afterCollab (s : State) (w : Word) : DecodeResult → State
  | .ok r =>
    if s.flags.throwOnUnimplemented ∧ r.mnemonic = .unimplemented then s.surfaced (.unimplemented w s.i r.category)
    else s.delivered r.withPreIndexLaw
  | .undefined reason =>
    if s.flags.continueOnError then s.delivered { mnemonic := .invalid } else s.surfaced (.undefined w s.i reason)
  | .unexpected e =>
    if s.flags.continueOnError then s.delivered { mnemonic := .invalid } else s.surfaced (.unexpected w s.i s.va e)
  | .unimplemented k =>
    if s.flags.throwOnUnimplemented then s.surfaced (.unimplemented w s.i (some (.unimpl k)))
    else s.delivered { mnemonic := .unimplemented, category := some (.unimpl k) }

/-! ### Safe states -/

/-- The invariant of a call: the buffer in canonical form; `i` a multiple of 4 and at most `len(B)` (R50), past 0 only in a
buffer the Structural check let through (R83); one record per word before `i` (R52), unless an eager call has
surfaced an error and discarded them (R411); every record stamped with its word's address (R84) and under R43's law; a
call that is `Done` at the end of its words. -/
structure State.Inv (s : State) : Prop where
  memWf : s.mem.wf = true
  aligned : s.i % 4 = 0
  inBuffer : s.i ≤ s.mem.len
  checked : s.i ≠ 0 → s.mem.len % 4 = 0
  oneRecordPerWord : 4 * s.out.length = s.i ∨ (s.shape = .eager ∧ s.out = [] ∧ ∃ e, s.status = .failed e)
  addresses : ∀ (k : Nat) (r : Record), s.out[k]? = some r → r.address = s.va + BitVec.ofNat 64 (4 * k)
  preIndexLaw : ∀ (k : Nat) (r : Record), s.out[k]? = some r → r.memIsPreIndexed = decide (r.memMode = .preIndex)
  doneAtEnd : s.status = .done → s.i = s.mem.len

/-! ### Pulls -/

/-- What `n` pulls of a stream answer, in order (R93: one step is one pull); `none` where one of them answers nothing,
faults or refuses. -/
def pulls : Nat → State → Option (List Reply)
  | 0, _ => some []
  | n + 1, s =>
    match step s with
    | .next t =>
      match t.reply, pulls n t with
      | some r, some rs => some (r :: rs)
      | _, _ => none
    | .fault _ => none
    | .refused _ => none

end Sys2Proof.Machine
end

