-- ==== Sys2Proof/Certificates/Slice0/OpcodeTable.lean ====
section
/-! DEFINITION. The opcode table of the spec (spec/opcode_table.json, 30_encoding.md R135) as data: its 351 rows of mask,
match and outcome, in its order, and what a row's outcome says of the decode core's answer for a word. The machine does
not read it; statements hold the core against it. -/

namespace Sys2Proof.Machine

open Sys2Proof

/-- The offset formula of an `Ok` row's `fields`. -/
inductive OffsetForm where
  | pair (scale : Nat)
  | uimm (shift : Nat)
  | imm9
  | regoff
deriving DecidableEq, Repr

/-- The `result` of a row; an `Ok` row with its mnemonic, its family of `Rt`, its offset formula and its `mem_mode`. -/
inductive RowOutcome where
  | ok (m : Mnemonic) (f : Family) (off : OffsetForm) (mode : MemMode)
  | undefined (reason : UndefReason)
  | unimplemented (kind : UnimplKind)
  | delegate (u : DelegateUnit)
deriving DecidableEq, Repr

/-- One row: it matches the word `I` when `I & mask = match` (R135). -/
structure OpRow where
  mask : Word
  pattern : Word
  outcome : RowOutcome
deriving DecidableEq, Repr

/-- `I & mask = match`. -/
def OpRow.Matches (r : OpRow) (w : Word) : Prop := w &&& r.mask = r.pattern

/-- What an offset formula says of a record of the word `w`. -/
def OffsetForm.Holds (w : Word) (r : Record) : OffsetForm → Prop
  | .pair scale => r.memOffset.toInt = (fImm7 w).toInt * scale ∧ r.memAddendReg = .none
  | .uimm shift => r.memOffset.toInt = (fImm12 w).toNat * 2 ^ shift ∧ r.memAddendReg = .none
  | .imm9 => r.memOffset.toInt = (fImm9 w).toInt ∧ r.memAddendReg = .none
  | .regoff => r.memOffset = 0 ∧ r.memAddendReg = .reg (if (fOption w).getLsbD 0 then .X else .W) (fRm w)

/-- What a row's outcome says of the decode core's answer for the word `w`. -/
def RowOutcome.Holds (w : Word) : RowOutcome → Prop
  | .ok m f off mode =>
    ∃ r : Record, dispatch w = .ok r ∧ r.mnemonic = m ∧ r.op0Reg = .reg f (fRt w) ∧ r.memBase = .reg .X (fRn w) ∧
      r.memMode = mode ∧ off.Holds w r
  | .undefined reason => dispatch w = .undefined reason
  | .unimplemented kind => dispatch w = .unimplemented kind
  | .delegate u => dispatch w = .delegate u

/-- An `Ok` row. -/
def rowK (mask pattern : Nat) (m : Mnemonic) (f : Family) (off : OffsetForm) (mode : MemMode) : OpRow :=
  { mask := BitVec.ofNat 32 mask, pattern := BitVec.ofNat 32 pattern, outcome := .ok m f off mode }

/-- An `Undefined` row. -/
def rowU (mask pattern : Nat) (reason : UndefReason) : OpRow :=
  { mask := BitVec.ofNat 32 mask, pattern := BitVec.ofNat 32 pattern, outcome := .undefined reason }

/-- An `Unimplemented` row. -/
def rowN (mask pattern : Nat) (kind : UnimplKind) : OpRow :=
  { mask := BitVec.ofNat 32 mask, pattern := BitVec.ofNat 32 pattern, outcome := .unimplemented kind }

/-- A `Delegate` row. -/
def rowD (mask pattern : Nat) (u : DelegateUnit) : OpRow :=
  { mask := BitVec.ofNat 32 mask, pattern := BitVec.ofNat 32 pattern, outcome := .delegate u }

/-- Rows 1 to 60 of the table. -/
def opcodeRows1 : List OpRow :=
  [rowU 0x9E000000 0x00000000 .reservedGroup,
   rowU 0x1E000000 0x02000000 .unallocatedType,
   rowD 0x1E000000 0x04000000 .sve,
   rowU 0x1E000000 0x06000000 .unallocatedType,
   rowD 0xFF9F0000 0x08000000 .simdLsSingle,
   rowU 0xFF9F0000 0x08010000 .simdLsStruct,
   rowU 0xFF9E0000 0x08020000 .simdLsStruct,
   rowU 0xFF9C0000 0x08040000 .simdLsStruct,
   rowU 0xFF980000 0x08080000 .simdLsStruct,
   rowU 0xFF900000 0x08100000 .simdLsStruct,
   rowD 0xFF9F0000 0x08800000 .simdLsSingle,
   rowU 0xFF9F0000 0x08810000 .simdLsStruct,
   rowU 0xFF9E0000 0x08820000 .simdLsStruct,
   rowU 0xFF9C0000 0x08840000 .simdLsStruct,
   rowU 0xFF980000 0x08880000 .simdLsStruct,
   rowU 0xFF900000 0x08900000 .simdLsStruct,
   rowD 0xFF9F0000 0x09000000 .simdLsSingle,
   rowU 0xFF9F0000 0x09010000 .simdLsStruct,
   rowU 0xFF9E0000 0x09020000 .simdLsStruct,
   rowU 0xFF9C0000 0x09040000 .simdLsStruct,
   rowU 0xFF980000 0x09080000 .simdLsStruct,
   rowU 0xFF900000 0x09100000 .simdLsStruct,
   rowD 0xFF800000 0x09800000 .simdLsSinglePost,
   rowD 0x1E000000 0x0A000000 .dpr,
   rowD 0xFF9F0000 0x0C000000 .simdLsSingle,
   rowU 0xFF9F0000 0x0C010000 .simdLsStruct,
   rowU 0xFF9E0000 0x0C020000 .simdLsStruct,
   rowU 0xFF9C0000 0x0C040000 .simdLsStruct,
   rowU 0xFF980000 0x0C080000 .simdLsStruct,
   rowU 0xFF900000 0x0C100000 .simdLsStruct,
   rowD 0xFF9F0000 0x0C800000 .simdLsSingle,
   rowU 0xFF9F0000 0x0C810000 .simdLsStruct,
   rowU 0xFF9E0000 0x0C820000 .simdLsStruct,
   rowU 0xFF9C0000 0x0C840000 .simdLsStruct,
   rowU 0xFF980000 0x0C880000 .simdLsStruct,
   rowU 0xFF900000 0x0C900000 .simdLsStruct,
   rowD 0xFF9F0000 0x0D000000 .simdLsSingle,
   rowU 0xFF9F0000 0x0D010000 .simdLsStruct,
   rowU 0xFF9E0000 0x0D020000 .simdLsStruct,
   rowU 0xFF9C0000 0x0D040000 .simdLsStruct,
   rowU 0xFF980000 0x0D080000 .simdLsStruct,
   rowU 0xFF900000 0x0D100000 .simdLsStruct,
   rowD 0xFF800000 0x0D800000 .simdLsSinglePost,
   rowD 0x1E000000 0x0E000000 .simd,
   rowD 0x1E000000 0x10000000 .dpi,
   rowD 0x1E000000 0x12000000 .dpi,
   rowD 0x1E000000 0x14000000 .bes,
   rowD 0x1E000000 0x16000000 .bes,
   rowN 0xFE000000 0x18000000 .ldaprLiteralMemcpy,
   rowD 0x1E000000 0x1A000000 .dpr,
   rowN 0xFE000000 0x1C000000 .ldaprLiteralMemcpy,
   rowD 0x1E000000 0x1E000000 .simd,
   rowN 0xFF800000 0x28000000 .noallocPair,
   rowK 0xFFC00000 0x28800000 .stp .W (.pair 4) .postIndex,
   rowK 0xFFC00000 0x28C00000 .ldp .W (.pair 4) .postIndex,
   rowK 0xFFC00000 0x29000000 .stp .W (.pair 4) .offset,
   rowK 0xFFC00000 0x29400000 .ldp .W (.pair 4) .offset,
   rowK 0xFFC00000 0x29800000 .stp .W (.pair 4) .preIndex,
   rowK 0xFFC00000 0x29C00000 .ldp .W (.pair 4) .preIndex,
   rowN 0xFF800000 0x2C000000 .noallocPair]

/-- Rows 61 to 120 of the table. -/
def opcodeRows2 : List OpRow :=
  [rowK 0xFFC00000 0x2C800000 .stp .S (.pair 4) .postIndex,
   rowK 0xFFC00000 0x2CC00000 .ldp .S (.pair 4) .postIndex,
   rowK 0xFFC00000 0x2D000000 .stp .S (.pair 4) .offset,
   rowK 0xFFC00000 0x2D400000 .ldp .S (.pair 4) .offset,
   rowK 0xFFC00000 0x2D800000 .stp .S (.pair 4) .preIndex,
   rowK 0xFFC00000 0x2DC00000 .ldp .S (.pair 4) .preIndex,
   rowK 0xFFE00C00 0x38000000 .sturb .W .imm9 .offset,
   rowK 0xFFE00C00 0x38000400 .strb .W .imm9 .postIndex,
   rowN 0xFF200C00 0x38000800 .unprivileged,
   rowK 0xFFE00C00 0x38000C00 .strb .W .imm9 .preIndex,
   rowN 0xFF200C00 0x38200000 .atomic,
   rowN 0xFF200C00 0x38200400 .pac,
   rowK 0xFFE00C00 0x38200800 .strb .W .regoff .offset,
   rowN 0xFF200C00 0x38200C00 .pac,
   rowK 0xFFE00C00 0x38400000 .ldurb .W .imm9 .offset,
   rowK 0xFFE00C00 0x38400400 .ldrb .W .imm9 .postIndex,
   rowK 0xFFE00C00 0x38400C00 .ldrb .W .imm9 .preIndex,
   rowK 0xFFE00C00 0x38600800 .ldrb .W .regoff .offset,
   rowK 0xFFE00C00 0x38800000 .ldursb .X .imm9 .offset,
   rowK 0xFFE00C00 0x38800400 .ldrsb .X .imm9 .postIndex,
   rowK 0xFFE00C00 0x38800C00 .ldrsb .X .imm9 .preIndex,
   rowK 0xFFE00C00 0x38A00800 .ldrsb .X .regoff .offset,
   rowK 0xFFE00C00 0x38C00000 .ldursb .W .imm9 .offset,
   rowK 0xFFE00C00 0x38C00400 .ldrsb .W .imm9 .postIndex,
   rowK 0xFFE00C00 0x38C00C00 .ldrsb .W .imm9 .preIndex,
   rowK 0xFFE00C00 0x38E00800 .ldrsb .W .regoff .offset,
   rowK 0xFFC00000 0x39000000 .strb .W (.uimm 0) .offset,
   rowK 0xFFC00000 0x39400000 .ldrb .W (.uimm 0) .offset,
   rowK 0xFFC00000 0x39800000 .ldrsb .X (.uimm 0) .offset,
   rowK 0xFFC00000 0x39C00000 .ldrsb .W (.uimm 0) .offset,
   rowK 0xFFE00C00 0x3C000000 .stur .B .imm9 .offset,
   rowK 0xFFE00C00 0x3C000400 .str .B .imm9 .postIndex,
   rowN 0xFF200C00 0x3C000800 .unprivileged,
   rowK 0xFFE00C00 0x3C000C00 .str .B .imm9 .preIndex,
   rowN 0xFF200C00 0x3C200000 .atomic,
   rowN 0xFF200C00 0x3C200400 .pac,
   rowK 0xFFE00C00 0x3C200800 .str .B .regoff .offset,
   rowN 0xFF200C00 0x3C200C00 .pac,
   rowK 0xFFE00C00 0x3C400000 .ldur .V .imm9 .offset,
   rowK 0xFFE00C00 0x3C400400 .ldr .V .imm9 .postIndex,
   rowK 0xFFE00C00 0x3C400C00 .ldr .V .imm9 .preIndex,
   rowK 0xFFE00C00 0x3C600800 .ldr .V .regoff .offset,
   rowK 0xFFE00C00 0x3C800000 .stur .V .imm9 .offset,
   rowK 0xFFE00C00 0x3C800400 .str .V .imm9 .postIndex,
   rowK 0xFFE00C00 0x3C800C00 .str .V .imm9 .preIndex,
   rowK 0xFFE00C00 0x3CA00800 .str .V .regoff .offset,
   rowK 0xFFE00C00 0x3CC00000 .ldur .V .imm9 .offset,
   rowK 0xFFE00C00 0x3CC00400 .ldr .V .imm9 .postIndex,
   rowK 0xFFE00C00 0x3CC00C00 .ldr .V .imm9 .preIndex,
   rowK 0xFFE00C00 0x3CE00800 .ldr .V .regoff .offset,
   rowK 0xFFC00000 0x3D000000 .str .B (.uimm 0) .offset,
   rowK 0xFFC00000 0x3D400000 .ldr .V (.uimm 0) .offset,
   rowK 0xFFC00000 0x3D800000 .str .V (.uimm 0) .offset,
   rowK 0xFFC00000 0x3DC00000 .ldr .V (.uimm 0) .offset,
   rowD 0xFF9F0000 0x48000000 .simdLsSingle,
   rowU 0xFF9F0000 0x48010000 .simdLsStruct,
   rowU 0xFF9E0000 0x48020000 .simdLsStruct,
   rowU 0xFF9C0000 0x48040000 .simdLsStruct,
   rowU 0xFF980000 0x48080000 .simdLsStruct,
   rowU 0xFF900000 0x48100000 .simdLsStruct]

/-- Rows 121 to 180 of the table. -/
def opcodeRows3 : List OpRow :=
  [rowD 0xFF9F0000 0x48800000 .simdLsSingle,
   rowU 0xFF9F0000 0x48810000 .simdLsStruct,
   rowU 0xFF9E0000 0x48820000 .simdLsStruct,
   rowU 0xFF9C0000 0x48840000 .simdLsStruct,
   rowU 0xFF980000 0x48880000 .simdLsStruct,
   rowU 0xFF900000 0x48900000 .simdLsStruct,
   rowD 0xFF9F0000 0x49000000 .simdLsSingle,
   rowU 0xFF9F0000 0x49010000 .simdLsStruct,
   rowU 0xFF9E0000 0x49020000 .simdLsStruct,
   rowU 0xFF9C0000 0x49040000 .simdLsStruct,
   rowU 0xFF980000 0x49080000 .simdLsStruct,
   rowU 0xFF900000 0x49100000 .simdLsStruct,
   rowD 0xFF800000 0x49800000 .simdLsSinglePost,
   rowD 0xFF9F0000 0x4C000000 .simdLsSingle,
   rowU 0xFF9F0000 0x4C010000 .simdLsStruct,
   rowU 0xFF9E0000 0x4C020000 .simdLsStruct,
   rowU 0xFF9C0000 0x4C040000 .simdLsStruct,
   rowU 0xFF980000 0x4C080000 .simdLsStruct,
   rowU 0xFF900000 0x4C100000 .simdLsStruct,
   rowD 0xFF9F0000 0x4C800000 .simdLsSingle,
   rowU 0xFF9F0000 0x4C810000 .simdLsStruct,
   rowU 0xFF9E0000 0x4C820000 .simdLsStruct,
   rowU 0xFF9C0000 0x4C840000 .simdLsStruct,
   rowU 0xFF980000 0x4C880000 .simdLsStruct,
   rowU 0xFF900000 0x4C900000 .simdLsStruct,
   rowD 0xFF9F0000 0x4D000000 .simdLsSingle,
   rowU 0xFF9F0000 0x4D010000 .simdLsStruct,
   rowU 0xFF9E0000 0x4D020000 .simdLsStruct,
   rowU 0xFF9C0000 0x4D040000 .simdLsStruct,
   rowU 0xFF980000 0x4D080000 .simdLsStruct,
   rowU 0xFF900000 0x4D100000 .simdLsStruct,
   rowD 0xFF800000 0x4D800000 .simdLsSinglePost,
   rowN 0xFE000000 0x58000000 .ldaprLiteralMemcpy,
   rowN 0xFE000000 0x5C000000 .ldaprLiteralMemcpy,
   rowN 0xFF800000 0x68000000 .noallocPair,
   rowK 0xFFC00000 0x68800000 .stgp .W (.pair 4) .postIndex,
   rowK 0xFFC00000 0x68C00000 .ldpsw .D (.pair 8) .postIndex,
   rowK 0xFFC00000 0x69000000 .stgp .W (.pair 4) .offset,
   rowK 0xFFC00000 0x69400000 .ldpsw .D (.pair 8) .offset,
   rowK 0xFFC00000 0x69800000 .stgp .W (.pair 4) .preIndex,
   rowK 0xFFC00000 0x69C00000 .ldpsw .D (.pair 8) .preIndex,
   rowN 0xFF800000 0x6C000000 .noallocPair,
   rowK 0xFFC00000 0x6C800000 .stp .D (.pair 8) .postIndex,
   rowK 0xFFC00000 0x6CC00000 .ldp .D (.pair 8) .postIndex,
   rowK 0xFFC00000 0x6D000000 .stp .D (.pair 8) .offset,
   rowK 0xFFC00000 0x6D400000 .ldp .D (.pair 8) .offset,
   rowK 0xFFC00000 0x6D800000 .stp .D (.pair 8) .preIndex,
   rowK 0xFFC00000 0x6DC00000 .ldp .D (.pair 8) .preIndex,
   rowK 0xFFE00C00 0x78000000 .sturh .W .imm9 .offset,
   rowK 0xFFE00C00 0x78000400 .strh .W .imm9 .postIndex,
   rowN 0xFF200C00 0x78000800 .unprivileged,
   rowK 0xFFE00C00 0x78000C00 .strh .W .imm9 .preIndex,
   rowN 0xFF200C00 0x78200000 .atomic,
   rowN 0xFF200C00 0x78200400 .pac,
   rowK 0xFFE00C00 0x78200800 .strh .W .regoff .offset,
   rowN 0xFF200C00 0x78200C00 .pac,
   rowK 0xFFE00C00 0x78400000 .ldurh .W .imm9 .offset,
   rowK 0xFFE00C00 0x78400400 .ldrh .W .imm9 .postIndex,
   rowK 0xFFE00C00 0x78400C00 .ldrh .W .imm9 .preIndex,
   rowK 0xFFE00C00 0x78600800 .ldrh .W .regoff .offset]

/-- Rows 181 to 240 of the table. -/
def opcodeRows4 : List OpRow :=
  [rowK 0xFFE00C00 0x78800000 .ldursh .X .imm9 .offset,
   rowK 0xFFE00C00 0x78800400 .ldrsh .X .imm9 .postIndex,
   rowK 0xFFE00C00 0x78800C00 .ldrsh .X .imm9 .preIndex,
   rowK 0xFFE00C00 0x78A00800 .ldrsh .X .regoff .offset,
   rowK 0xFFE00C00 0x78C00000 .ldursh .W .imm9 .offset,
   rowK 0xFFE00C00 0x78C00400 .ldrsh .W .imm9 .postIndex,
   rowK 0xFFE00C00 0x78C00C00 .ldrsh .W .imm9 .preIndex,
   rowK 0xFFE00C00 0x78E00800 .ldrsh .W .regoff .offset,
   rowK 0xFFC00000 0x79000000 .strh .W (.uimm 1) .offset,
   rowK 0xFFC00000 0x79400000 .ldrh .W (.uimm 1) .offset,
   rowK 0xFFC00000 0x79800000 .ldrsh .X (.uimm 1) .offset,
   rowK 0xFFC00000 0x79C00000 .ldrsh .W (.uimm 1) .offset,
   rowK 0xFFE00C00 0x7C000000 .stur .H .imm9 .offset,
   rowK 0xFFE00C00 0x7C000400 .str .H .imm9 .postIndex,
   rowN 0xFF200C00 0x7C000800 .unprivileged,
   rowK 0xFFE00C00 0x7C000C00 .str .H .imm9 .preIndex,
   rowN 0xFF200C00 0x7C200000 .atomic,
   rowN 0xFF200C00 0x7C200400 .pac,
   rowK 0xFFE00C00 0x7C200800 .str .H .regoff .offset,
   rowN 0xFF200C00 0x7C200C00 .pac,
   rowK 0xFFE00C00 0x7C400000 .ldur .V .imm9 .offset,
   rowK 0xFFE00C00 0x7C400400 .ldr .V .imm9 .postIndex,
   rowK 0xFFE00C00 0x7C400C00 .ldr .V .imm9 .preIndex,
   rowK 0xFFE00C00 0x7C600800 .ldr .V .regoff .offset,
   rowU 0xFFE00C00 0x7C800000 .lsUnscaledCell,
   rowU 0xFFE00C00 0x7C800400 .lsIndexedCell,
   rowU 0xFFE00C00 0x7C800C00 .lsIndexedCell,
   rowU 0xFFE00C00 0x7CA00800 .lsRegoffCell,
   rowU 0xFFE00C00 0x7CC00000 .lsUnscaledCell,
   rowU 0xFFE00C00 0x7CC00400 .lsIndexedCell,
   rowU 0xFFE00C00 0x7CC00C00 .lsIndexedCell,
   rowU 0xFFE00C00 0x7CE00800 .lsRegoffCell,
   rowK 0xFFC00000 0x7D000000 .str .H (.uimm 1) .offset,
   rowK 0xFFC00000 0x7D400000 .ldr .V (.uimm 1) .offset,
   rowU 0xFFC00000 0x7D800000 .lsUimmCell,
   rowU 0xFFC00000 0x7DC00000 .lsUimmCell,
   rowN 0x9E000000 0x80000000 .sme,
   rowN 0xFE000000 0x88000000 .exclusivePair,
   rowN 0xFE000000 0x8C000000 .exclusivePair,
   rowN 0xFE000000 0x98000000 .ldaprLiteralMemcpy,
   rowN 0xFE000000 0x9C000000 .ldaprLiteralMemcpy,
   rowN 0xFF800000 0xA8000000 .noallocPair,
   rowK 0xFFC00000 0xA8800000 .stp .X (.pair 8) .postIndex,
   rowK 0xFFC00000 0xA8C00000 .ldp .X (.pair 8) .postIndex,
   rowK 0xFFC00000 0xA9000000 .stp .X (.pair 8) .offset,
   rowK 0xFFC00000 0xA9400000 .ldp .X (.pair 8) .offset,
   rowK 0xFFC00000 0xA9800000 .stp .X (.pair 8) .preIndex,
   rowK 0xFFC00000 0xA9C00000 .ldp .X (.pair 8) .preIndex,
   rowN 0xFF800000 0xAC000000 .noallocPair,
   rowK 0xFFC00000 0xAC800000 .stp .V (.pair 16) .postIndex,
   rowK 0xFFC00000 0xACC00000 .ldp .V (.pair 16) .postIndex,
   rowK 0xFFC00000 0xAD000000 .stp .V (.pair 16) .offset,
   rowK 0xFFC00000 0xAD400000 .ldp .V (.pair 16) .offset,
   rowK 0xFFC00000 0xAD800000 .stp .V (.pair 16) .preIndex,
   rowK 0xFFC00000 0xADC00000 .ldp .V (.pair 16) .preIndex,
   rowK 0xFFE00C00 0xB8000000 .stur .W .imm9 .offset,
   rowK 0xFFE00C00 0xB8000400 .str .W .imm9 .postIndex,
   rowN 0xFF200C00 0xB8000800 .unprivileged,
   rowK 0xFFE00C00 0xB8000C00 .str .W .imm9 .preIndex,
   rowN 0xFF200C00 0xB8200000 .atomic]

/-- Rows 241 to 300 of the table. -/
def opcodeRows5 : List OpRow :=
  [rowN 0xFF200C00 0xB8200400 .pac,
   rowK 0xFFE00C00 0xB8200800 .str .W .regoff .offset,
   rowN 0xFF200C00 0xB8200C00 .pac,
   rowK 0xFFE00C00 0xB8400000 .ldur .W .imm9 .offset,
   rowK 0xFFE00C00 0xB8400400 .ldr .W .imm9 .postIndex,
   rowK 0xFFE00C00 0xB8400C00 .ldr .W .imm9 .preIndex,
   rowK 0xFFE00C00 0xB8600800 .ldr .W .regoff .offset,
   rowK 0xFFE00C00 0xB8800000 .ldursw .X .imm9 .offset,
   rowK 0xFFE00C00 0xB8800400 .ldrsw .X .imm9 .postIndex,
   rowK 0xFFE00C00 0xB8800C00 .ldrsw .X .imm9 .preIndex,
   rowK 0xFFE00C00 0xB8A00800 .ldrsw .X .regoff .offset,
   rowN 0xFFE00C00 0xB8C00000 .prfum,
   rowU 0xFFE00C00 0xB8C00400 .lsIndexedCell,
   rowU 0xFFE00C00 0xB8C00C00 .lsIndexedCell,
   rowN 0xFFE00C00 0xB8E00800 .prfm,
   rowK 0xFFC00000 0xB9000000 .str .W (.uimm 2) .offset,
   rowK 0xFFC00000 0xB9400000 .ldr .W (.uimm 2) .offset,
   rowK 0xFFC00000 0xB9800000 .ldrsw .X (.uimm 2) .offset,
   rowN 0xFFC00000 0xB9C00000 .prfm,
   rowK 0xFFE00C00 0xBC000000 .stur .S .imm9 .offset,
   rowK 0xFFE00C00 0xBC000400 .str .S .imm9 .postIndex,
   rowN 0xFF200C00 0xBC000800 .unprivileged,
   rowK 0xFFE00C00 0xBC000C00 .str .S .imm9 .preIndex,
   rowN 0xFF200C00 0xBC200000 .atomic,
   rowN 0xFF200C00 0xBC200400 .pac,
   rowK 0xFFE00C00 0xBC200800 .str .S .regoff .offset,
   rowN 0xFF200C00 0xBC200C00 .pac,
   rowK 0xFFE00C00 0xBC400000 .ldur .V .imm9 .offset,
   rowK 0xFFE00C00 0xBC400400 .ldr .V .imm9 .postIndex,
   rowK 0xFFE00C00 0xBC400C00 .ldr .V .imm9 .preIndex,
   rowK 0xFFE00C00 0xBC600800 .ldr .V .regoff .offset,
   rowU 0xFFE00C00 0xBC800000 .lsUnscaledCell,
   rowU 0xFFE00C00 0xBC800400 .lsIndexedCell,
   rowU 0xFFE00C00 0xBC800C00 .lsIndexedCell,
   rowU 0xFFE00C00 0xBCA00800 .lsRegoffCell,
   rowU 0xFFE00C00 0xBCC00000 .lsUnscaledCell,
   rowU 0xFFE00C00 0xBCC00400 .lsIndexedCell,
   rowU 0xFFE00C00 0xBCC00C00 .lsIndexedCell,
   rowU 0xFFE00C00 0xBCE00800 .lsRegoffCell,
   rowK 0xFFC00000 0xBD000000 .str .S (.uimm 2) .offset,
   rowK 0xFFC00000 0xBD400000 .ldr .V (.uimm 2) .offset,
   rowU 0xFFC00000 0xBD800000 .lsUimmCell,
   rowU 0xFFC00000 0xBDC00000 .lsUimmCell,
   rowN 0xFE000000 0xC8000000 .exclusivePair,
   rowN 0xFE000000 0xCC000000 .exclusivePair,
   rowN 0xFF000000 0xD8000000 .ldaprLiteralMemcpy,
   rowN 0xFF200000 0xD9000000 .ldaprLiteralMemcpy,
   rowN 0xFF200000 0xD9200000 .memoryTags,
   rowN 0xFE000000 0xDC000000 .ldaprLiteralMemcpy,
   rowN 0xFF800000 0xE8000000 .noallocPair,
   rowU 0xFFC00000 0xE8800000 .pairOpc11,
   rowU 0xFFC00000 0xE8C00000 .pairOpc11,
   rowU 0xFFC00000 0xE9000000 .pairOpc11,
   rowU 0xFFC00000 0xE9400000 .pairOpc11,
   rowU 0xFFC00000 0xE9800000 .pairOpc11,
   rowU 0xFFC00000 0xE9C00000 .pairOpc11,
   rowN 0xFF800000 0xEC000000 .noallocPair,
   rowU 0xFFC00000 0xEC800000 .pairOpc11,
   rowU 0xFFC00000 0xECC00000 .pairOpc11,
   rowU 0xFFC00000 0xED000000 .pairOpc11]

/-- Rows 301 to 351 of the table. -/
def opcodeRows6 : List OpRow :=
  [rowU 0xFFC00000 0xED400000 .pairOpc11,
   rowU 0xFFC00000 0xED800000 .pairOpc11,
   rowU 0xFFC00000 0xEDC00000 .pairOpc11,
   rowK 0xFFE00C00 0xF8000000 .stur .X .imm9 .offset,
   rowK 0xFFE00C00 0xF8000400 .str .X .imm9 .postIndex,
   rowN 0xFF200C00 0xF8000800 .unprivileged,
   rowK 0xFFE00C00 0xF8000C00 .str .X .imm9 .preIndex,
   rowN 0xFF200C00 0xF8200000 .atomic,
   rowN 0xFF200C00 0xF8200400 .pac,
   rowK 0xFFE00C00 0xF8200800 .str .X .regoff .offset,
   rowN 0xFF200C00 0xF8200C00 .pac,
   rowK 0xFFE00C00 0xF8400000 .ldur .X .imm9 .offset,
   rowK 0xFFE00C00 0xF8400400 .ldr .X .imm9 .postIndex,
   rowK 0xFFE00C00 0xF8400C00 .ldr .X .imm9 .preIndex,
   rowK 0xFFE00C00 0xF8600800 .ldr .X .regoff .offset,
   rowU 0xFFE00C00 0xF8800000 .lsUnscaledCell,
   rowU 0xFFE00C00 0xF8800400 .lsIndexedCell,
   rowU 0xFFE00C00 0xF8800C00 .lsIndexedCell,
   rowN 0xFFE00C00 0xF8A00800 .prfm,
   rowU 0xFFE00C00 0xF8C00000 .lsUnscaledCell,
   rowU 0xFFE00C00 0xF8C00400 .lsIndexedCell,
   rowU 0xFFE00C00 0xF8C00C00 .lsIndexedCell,
   rowU 0xFFE00C00 0xF8E00800 .lsRegoffCell,
   rowK 0xFFC00000 0xF9000000 .str .X (.uimm 3) .offset,
   rowK 0xFFC00000 0xF9400000 .ldr .X (.uimm 3) .offset,
   rowU 0xFFC00000 0xF9800000 .lsUimmCell,
   rowU 0xFFC00000 0xF9C00000 .lsUimmCell,
   rowK 0xFFE00C00 0xFC000000 .stur .D .imm9 .offset,
   rowK 0xFFE00C00 0xFC000400 .str .D .imm9 .postIndex,
   rowN 0xFF200C00 0xFC000800 .unprivileged,
   rowK 0xFFE00C00 0xFC000C00 .str .D .imm9 .preIndex,
   rowN 0xFF200C00 0xFC200000 .atomic,
   rowN 0xFF200C00 0xFC200400 .pac,
   rowK 0xFFE00C00 0xFC200800 .str .D .regoff .offset,
   rowN 0xFF200C00 0xFC200C00 .pac,
   rowK 0xFFE00C00 0xFC400000 .ldur .V .imm9 .offset,
   rowK 0xFFE00C00 0xFC400400 .ldr .V .imm9 .postIndex,
   rowK 0xFFE00C00 0xFC400C00 .ldr .V .imm9 .preIndex,
   rowK 0xFFE00C00 0xFC600800 .ldr .V .regoff .offset,
   rowU 0xFFE00C00 0xFC800000 .lsUnscaledCell,
   rowU 0xFFE00C00 0xFC800400 .lsIndexedCell,
   rowU 0xFFE00C00 0xFC800C00 .lsIndexedCell,
   rowU 0xFFE00C00 0xFCA00800 .lsRegoffCell,
   rowU 0xFFE00C00 0xFCC00000 .lsUnscaledCell,
   rowU 0xFFE00C00 0xFCC00400 .lsIndexedCell,
   rowU 0xFFE00C00 0xFCC00C00 .lsIndexedCell,
   rowU 0xFFE00C00 0xFCE00800 .lsRegoffCell,
   rowK 0xFFC00000 0xFD000000 .str .D (.uimm 3) .offset,
   rowK 0xFFC00000 0xFD400000 .ldr .V (.uimm 3) .offset,
   rowU 0xFFC00000 0xFD800000 .lsUimmCell,
   rowU 0xFFC00000 0xFDC00000 .lsUimmCell]

/-- The whole table: 351 rows (R135). -/
def opcodeTable : List OpRow :=
  opcodeRows1 ++ opcodeRows2 ++ opcodeRows3 ++ opcodeRows4 ++ opcodeRows5 ++ opcodeRows6

end Sys2Proof.Machine
end

