-- ==== Sys2Proof/Certificates/Slice0/Obligations.lean ====
section
/-! DEFINITION. The statements for the provers. Those about instructions write the word as the encoding string of the
instruction's rule, field after field, and the record through `pairRec`, `singleRec` and `regoffRec` (Sys2Proof/Safety.lean),
whose unnamed fields are at their identity values; `State.delivered` and `State.surfaced` say of every field of the state
what it becomes, so each such statement holds the whole frame. -/

open Sys2Proof Sys2Proof.Machine

/-! ### Register pairs (spec/41_pairs.md) -/

/-- STP in its three modes, every cell and operand (R201, R202, R203): what the word decodes to, and that the
instruction completes in every state with that record. -/
def Obligations.StpRecords : Prop :=
  ∀ (opc : BitVec 2) (v : Bool) (f : Family) (scale : Nat), (opc, v, f, scale) ∈ pairRows →
  ∀ (imm7 : BitVec 7) (rt2 rn rt : RegIx) (s : State),
    CoreGives (opc ++ 0b101#3 ++ BitVec.ofBool v ++ 0b0010#4 ++ imm7 ++ rt2 ++ rn ++ rt)
      (.stpPost opc v imm7 rt2 rn rt)
      (pairRec .stp f scale .postIndex imm7 rt2 rn rt) ∧
    exec (.stpPost opc v imm7 rt2 rn rt) s =
      .next (s.delivered (pairRec .stp f scale .postIndex imm7 rt2 rn rt)) ∧
    CoreGives (opc ++ 0b101#3 ++ BitVec.ofBool v ++ 0b0100#4 ++ imm7 ++ rt2 ++ rn ++ rt)
      (.stpOffset opc v imm7 rt2 rn rt)
      (pairRec .stp f scale .offset imm7 rt2 rn rt) ∧
    exec (.stpOffset opc v imm7 rt2 rn rt) s =
      .next (s.delivered (pairRec .stp f scale .offset imm7 rt2 rn rt)) ∧
    CoreGives (opc ++ 0b101#3 ++ BitVec.ofBool v ++ 0b0110#4 ++ imm7 ++ rt2 ++ rn ++ rt)
      (.stpPre opc v imm7 rt2 rn rt)
      (pairRec .stp f scale .preIndex imm7 rt2 rn rt) ∧
    exec (.stpPre opc v imm7 rt2 rn rt) s =
      .next (s.delivered (pairRec .stp f scale .preIndex imm7 rt2 rn rt))

/-- LDP in its three modes, every cell and operand (R204, R205, R206): what the word decodes to, and that the
instruction completes in every state with that record. -/
def Obligations.LdpRecords : Prop :=
  ∀ (opc : BitVec 2) (v : Bool) (f : Family) (scale : Nat), (opc, v, f, scale) ∈ pairRows →
  ∀ (imm7 : BitVec 7) (rt2 rn rt : RegIx) (s : State),
    CoreGives (opc ++ 0b101#3 ++ BitVec.ofBool v ++ 0b0011#4 ++ imm7 ++ rt2 ++ rn ++ rt)
      (.ldpPost opc v imm7 rt2 rn rt)
      (pairRec .ldp f scale .postIndex imm7 rt2 rn rt) ∧
    exec (.ldpPost opc v imm7 rt2 rn rt) s =
      .next (s.delivered (pairRec .ldp f scale .postIndex imm7 rt2 rn rt)) ∧
    CoreGives (opc ++ 0b101#3 ++ BitVec.ofBool v ++ 0b0101#4 ++ imm7 ++ rt2 ++ rn ++ rt)
      (.ldpOffset opc v imm7 rt2 rn rt)
      (pairRec .ldp f scale .offset imm7 rt2 rn rt) ∧
    exec (.ldpOffset opc v imm7 rt2 rn rt) s =
      .next (s.delivered (pairRec .ldp f scale .offset imm7 rt2 rn rt)) ∧
    CoreGives (opc ++ 0b101#3 ++ BitVec.ofBool v ++ 0b0111#4 ++ imm7 ++ rt2 ++ rn ++ rt)
      (.ldpPre opc v imm7 rt2 rn rt)
      (pairRec .ldp f scale .preIndex imm7 rt2 rn rt) ∧
    exec (.ldpPre opc v imm7 rt2 rn rt) s =
      .next (s.delivered (pairRec .ldp f scale .preIndex imm7 rt2 rn rt))

/-- STGP in its three modes (R207, R208, R209): family W, scale 4. -/
def Obligations.StgpRecords : Prop :=
  ∀ (imm7 : BitVec 7) (rt2 rn rt : RegIx) (s : State),
    CoreGives (0b0110100010#10 ++ imm7 ++ rt2 ++ rn ++ rt)
      (.stgpPost imm7 rt2 rn rt)
      (pairRec .stgp .W 4 .postIndex imm7 rt2 rn rt) ∧
    exec (.stgpPost imm7 rt2 rn rt) s =
      .next (s.delivered (pairRec .stgp .W 4 .postIndex imm7 rt2 rn rt)) ∧
    CoreGives (0b0110100100#10 ++ imm7 ++ rt2 ++ rn ++ rt)
      (.stgpOffset imm7 rt2 rn rt)
      (pairRec .stgp .W 4 .offset imm7 rt2 rn rt) ∧
    exec (.stgpOffset imm7 rt2 rn rt) s =
      .next (s.delivered (pairRec .stgp .W 4 .offset imm7 rt2 rn rt)) ∧
    CoreGives (0b0110100110#10 ++ imm7 ++ rt2 ++ rn ++ rt)
      (.stgpPre imm7 rt2 rn rt)
      (pairRec .stgp .W 4 .preIndex imm7 rt2 rn rt) ∧
    exec (.stgpPre imm7 rt2 rn rt) s =
      .next (s.delivered (pairRec .stgp .W 4 .preIndex imm7 rt2 rn rt))

/-- LDPSW in its three modes (R210, R211, R212): family D, scale 8. -/
def Obligations.LdpswRecords : Prop :=
  ∀ (imm7 : BitVec 7) (rt2 rn rt : RegIx) (s : State),
    CoreGives (0b0110100011#10 ++ imm7 ++ rt2 ++ rn ++ rt)
      (.ldpswPost imm7 rt2 rn rt)
      (pairRec .ldpsw .D 8 .postIndex imm7 rt2 rn rt) ∧
    exec (.ldpswPost imm7 rt2 rn rt) s =
      .next (s.delivered (pairRec .ldpsw .D 8 .postIndex imm7 rt2 rn rt)) ∧
    CoreGives (0b0110100101#10 ++ imm7 ++ rt2 ++ rn ++ rt)
      (.ldpswOffset imm7 rt2 rn rt)
      (pairRec .ldpsw .D 8 .offset imm7 rt2 rn rt) ∧
    exec (.ldpswOffset imm7 rt2 rn rt) s =
      .next (s.delivered (pairRec .ldpsw .D 8 .offset imm7 rt2 rn rt)) ∧
    CoreGives (0b0110100111#10 ++ imm7 ++ rt2 ++ rn ++ rt)
      (.ldpswPre imm7 rt2 rn rt)
      (pairRec .ldpsw .D 8 .preIndex imm7 rt2 rn rt) ∧
    exec (.ldpswPre imm7 rt2 rn rt) s =
      .next (s.delivered (pairRec .ldpsw .D 8 .preIndex imm7 rt2 rn rt))

/-! ### Unsigned immediate offset (spec/42_ls_unsigned_imm.md) -/

/-- STRB, STRH and STR, unsigned immediate offset: decoding, record and completion (R231, R232, R233). -/
def Obligations.UnsignedImmediateStores : Prop :=
  ∀ (imm12 : BitVec 12) (rn rt : RegIx) (s : State),
    CoreGives (0b0011100100#10 ++ imm12 ++ rn ++ rt)
      (.strbUimm imm12 rn rt)
      (singleRec .strb .W (imm12.setWidth 64 <<< 0) .offset rn rt) ∧
    exec (.strbUimm imm12 rn rt) s =
      .next (s.delivered (singleRec .strb .W (imm12.setWidth 64 <<< 0) .offset rn rt)) ∧
    CoreGives (0b0111100100#10 ++ imm12 ++ rn ++ rt)
      (.strhUimm imm12 rn rt)
      (singleRec .strh .W (imm12.setWidth 64 <<< 1) .offset rn rt) ∧
    exec (.strhUimm imm12 rn rt) s =
      .next (s.delivered (singleRec .strh .W (imm12.setWidth 64 <<< 1) .offset rn rt)) ∧
    (∀ (p : BitVec 10) (c : Cell) (f : Family) (k : Fin 5), (p, c, f, k) ∈ strUimmRows →
    CoreGives (p ++ imm12 ++ rn ++ rt)
      (.strUimm c imm12 rn rt)
      (singleRec .str f (imm12.setWidth 64 <<< k.val) .offset rn rt) ∧
    exec (.strUimm c imm12 rn rt) s =
      .next (s.delivered (singleRec .str f (imm12.setWidth 64 <<< k.val) .offset rn rt)))

/-- LDRB, LDRH and LDR, unsigned immediate offset: decoding, record and completion (R234, R235, R236). -/
def Obligations.UnsignedImmediateLoads : Prop :=
  ∀ (imm12 : BitVec 12) (rn rt : RegIx) (s : State),
    CoreGives (0b0011100101#10 ++ imm12 ++ rn ++ rt)
      (.ldrbUimm imm12 rn rt)
      (singleRec .ldrb .W (imm12.setWidth 64 <<< 0) .offset rn rt) ∧
    exec (.ldrbUimm imm12 rn rt) s =
      .next (s.delivered (singleRec .ldrb .W (imm12.setWidth 64 <<< 0) .offset rn rt)) ∧
    CoreGives (0b0111100101#10 ++ imm12 ++ rn ++ rt)
      (.ldrhUimm imm12 rn rt)
      (singleRec .ldrh .W (imm12.setWidth 64 <<< 1) .offset rn rt) ∧
    exec (.ldrhUimm imm12 rn rt) s =
      .next (s.delivered (singleRec .ldrh .W (imm12.setWidth 64 <<< 1) .offset rn rt)) ∧
    (∀ (p : BitVec 10) (c : Cell) (f : Family) (k : Fin 5), (p, c, f, k) ∈ ldrUimmRows →
    CoreGives (p ++ imm12 ++ rn ++ rt)
      (.ldrUimm c imm12 rn rt)
      (singleRec .ldr f (imm12.setWidth 64 <<< k.val) .offset rn rt) ∧
    exec (.ldrUimm c imm12 rn rt) s =
      .next (s.delivered (singleRec .ldr f (imm12.setWidth 64 <<< k.val) .offset rn rt)))

/-- LDRSB, LDRSH and LDRSW, unsigned immediate offset: decoding, record and completion (R237, R238, R239). -/
def Obligations.UnsignedImmediateSignedLoads : Prop :=
  ∀ (imm12 : BitVec 12) (rn rt : RegIx) (s : State),
    CoreGives (0b1011100110#10 ++ imm12 ++ rn ++ rt)
      (.ldrswUimm imm12 rn rt)
      (singleRec .ldrsw .X (imm12.setWidth 64 <<< 2) .offset rn rt) ∧
    exec (.ldrswUimm imm12 rn rt) s =
      .next (s.delivered (singleRec .ldrsw .X (imm12.setWidth 64 <<< 2) .offset rn rt)) ∧
    (∀ (p : BitVec 10) (c : Cell) (f : Family) (k : Fin 5), (p, c, f, k) ∈ ldrsbUimmRows →
    CoreGives (p ++ imm12 ++ rn ++ rt)
      (.ldrsbUimm c imm12 rn rt)
      (singleRec .ldrsb f (imm12.setWidth 64 <<< k.val) .offset rn rt) ∧
    exec (.ldrsbUimm c imm12 rn rt) s =
      .next (s.delivered (singleRec .ldrsb f (imm12.setWidth 64 <<< k.val) .offset rn rt))) ∧
    (∀ (p : BitVec 10) (c : Cell) (f : Family) (k : Fin 5), (p, c, f, k) ∈ ldrshUimmRows →
    CoreGives (p ++ imm12 ++ rn ++ rt)
      (.ldrshUimm c imm12 rn rt)
      (singleRec .ldrsh f (imm12.setWidth 64 <<< k.val) .offset rn rt) ∧
    exec (.ldrshUimm c imm12 rn rt) s =
      .next (s.delivered (singleRec .ldrsh f (imm12.setWidth 64 <<< k.val) .offset rn rt)))

/-! ### Register offset (spec/43_ls_register_offset.md) -/

/-- STRB, STRH and STR, register offset: decoding, record and completion (R261, R262, R263, R264). -/
def Obligations.RegisterOffsetStores : Prop :=
  ∀ (rm : RegIx) (option : BitVec 3) (sBit : Bool) (rn rt : RegIx) (s : State),
    CoreGives (0b0011100000#10 ++ 0b1#1 ++ rm ++ option ++ BitVec.ofBool sBit ++ 0b10#2 ++ rn ++ rt)
      (.strbRegoff rm option sBit rn rt)
      (regoffRec .strb .W 0 rm option sBit rn rt) ∧
    exec (.strbRegoff rm option sBit rn rt) s =
      .next (s.delivered (regoffRec .strb .W 0 rm option sBit rn rt)) ∧
    CoreGives (0b0111100000#10 ++ 0b1#1 ++ rm ++ option ++ BitVec.ofBool sBit ++ 0b10#2 ++ rn ++ rt)
      (.strhRegoff rm option sBit rn rt)
      (regoffRec .strh .W 1 rm option sBit rn rt) ∧
    exec (.strhRegoff rm option sBit rn rt) s =
      .next (s.delivered (regoffRec .strh .W 1 rm option sBit rn rt)) ∧
    (∀ (p : BitVec 10) (c : Cell) (f : Family) (k : Fin 5), (p, c, f, k) ∈ strRows →
    CoreGives (p ++ 0b1#1 ++ rm ++ option ++ BitVec.ofBool sBit ++ 0b10#2 ++ rn ++ rt)
      (.strRegoff c rm option sBit rn rt)
      (regoffRec .str f k rm option sBit rn rt) ∧
    exec (.strRegoff c rm option sBit rn rt) s =
      .next (s.delivered (regoffRec .str f k rm option sBit rn rt)))

/-- LDRB, LDRH and LDR, register offset: decoding, record and completion (R261, R265, R266, R267). -/
def Obligations.RegisterOffsetLoads : Prop :=
  ∀ (rm : RegIx) (option : BitVec 3) (sBit : Bool) (rn rt : RegIx) (s : State),
    CoreGives (0b0011100001#10 ++ 0b1#1 ++ rm ++ option ++ BitVec.ofBool sBit ++ 0b10#2 ++ rn ++ rt)
      (.ldrbRegoff rm option sBit rn rt)
      (regoffRec .ldrb .W 0 rm option sBit rn rt) ∧
    exec (.ldrbRegoff rm option sBit rn rt) s =
      .next (s.delivered (regoffRec .ldrb .W 0 rm option sBit rn rt)) ∧
    CoreGives (0b0111100001#10 ++ 0b1#1 ++ rm ++ option ++ BitVec.ofBool sBit ++ 0b10#2 ++ rn ++ rt)
      (.ldrhRegoff rm option sBit rn rt)
      (regoffRec .ldrh .W 1 rm option sBit rn rt) ∧
    exec (.ldrhRegoff rm option sBit rn rt) s =
      .next (s.delivered (regoffRec .ldrh .W 1 rm option sBit rn rt)) ∧
    (∀ (p : BitVec 10) (c : Cell) (f : Family) (k : Fin 5), (p, c, f, k) ∈ ldrRows →
    CoreGives (p ++ 0b1#1 ++ rm ++ option ++ BitVec.ofBool sBit ++ 0b10#2 ++ rn ++ rt)
      (.ldrRegoff c rm option sBit rn rt)
      (regoffRec .ldr f k rm option sBit rn rt) ∧
    exec (.ldrRegoff c rm option sBit rn rt) s =
      .next (s.delivered (regoffRec .ldr f k rm option sBit rn rt)))

/-- LDRSB, LDRSH and LDRSW, register offset: decoding, record and completion (R261, R268, R269, R270). -/
def Obligations.RegisterOffsetSignedLoads : Prop :=
  ∀ (rm : RegIx) (option : BitVec 3) (sBit : Bool) (rn rt : RegIx) (s : State),
    CoreGives (0b1011100010#10 ++ 0b1#1 ++ rm ++ option ++ BitVec.ofBool sBit ++ 0b10#2 ++ rn ++ rt)
      (.ldrswRegoff rm option sBit rn rt)
      (regoffRec .ldrsw .X 2 rm option sBit rn rt) ∧
    exec (.ldrswRegoff rm option sBit rn rt) s =
      .next (s.delivered (regoffRec .ldrsw .X 2 rm option sBit rn rt)) ∧
    (∀ (p : BitVec 10) (c : Cell) (f : Family) (k : Fin 5), (p, c, f, k) ∈ ldrsbRows →
    CoreGives (p ++ 0b1#1 ++ rm ++ option ++ BitVec.ofBool sBit ++ 0b10#2 ++ rn ++ rt)
      (.ldrsbRegoff c rm option sBit rn rt)
      (regoffRec .ldrsb f k rm option sBit rn rt) ∧
    exec (.ldrsbRegoff c rm option sBit rn rt) s =
      .next (s.delivered (regoffRec .ldrsb f k rm option sBit rn rt))) ∧
    (∀ (p : BitVec 10) (c : Cell) (f : Family) (k : Fin 5), (p, c, f, k) ∈ ldrshRows →
    CoreGives (p ++ 0b1#1 ++ rm ++ option ++ BitVec.ofBool sBit ++ 0b10#2 ++ rn ++ rt)
      (.ldrshRegoff c rm option sBit rn rt)
      (regoffRec .ldrsh f k rm option sBit rn rt) ∧
    exec (.ldrshRegoff c rm option sBit rn rt) s =
      .next (s.delivered (regoffRec .ldrsh f k rm option sBit rn rt)))

/-! ### Unscaled immediate offset (spec/44_ls_unscaled.md) -/

/-- STURB, STURH and STUR, unscaled immediate offset: decoding, record and completion (R291, R292, R293). -/
def Obligations.UnscaledStores : Prop :=
  ∀ (imm9 : BitVec 9) (rn rt : RegIx) (s : State),
    CoreGives (0b0011100000#10 ++ 0b0#1 ++ imm9 ++ 0b00#2 ++ rn ++ rt)
      (.sturb imm9 rn rt)
      (singleRec .sturb .W (imm9.signExtend 64) .offset rn rt) ∧
    exec (.sturb imm9 rn rt) s =
      .next (s.delivered (singleRec .sturb .W (imm9.signExtend 64) .offset rn rt)) ∧
    CoreGives (0b0111100000#10 ++ 0b0#1 ++ imm9 ++ 0b00#2 ++ rn ++ rt)
      (.sturh imm9 rn rt)
      (singleRec .sturh .W (imm9.signExtend 64) .offset rn rt) ∧
    exec (.sturh imm9 rn rt) s =
      .next (s.delivered (singleRec .sturh .W (imm9.signExtend 64) .offset rn rt)) ∧
    (∀ (p : BitVec 10) (c : Cell) (f : Family) (k : Fin 5), (p, c, f, k) ∈ strRows →
    CoreGives (p ++ 0b0#1 ++ imm9 ++ 0b00#2 ++ rn ++ rt)
      (.stur c imm9 rn rt)
      (singleRec .stur f (imm9.signExtend 64) .offset rn rt) ∧
    exec (.stur c imm9 rn rt) s =
      .next (s.delivered (singleRec .stur f (imm9.signExtend 64) .offset rn rt)))

/-- LDURB, LDURH and LDUR, unscaled immediate offset: decoding, record and completion (R294, R295, R296). -/
def Obligations.UnscaledLoads : Prop :=
  ∀ (imm9 : BitVec 9) (rn rt : RegIx) (s : State),
    CoreGives (0b0011100001#10 ++ 0b0#1 ++ imm9 ++ 0b00#2 ++ rn ++ rt)
      (.ldurb imm9 rn rt)
      (singleRec .ldurb .W (imm9.signExtend 64) .offset rn rt) ∧
    exec (.ldurb imm9 rn rt) s =
      .next (s.delivered (singleRec .ldurb .W (imm9.signExtend 64) .offset rn rt)) ∧
    CoreGives (0b0111100001#10 ++ 0b0#1 ++ imm9 ++ 0b00#2 ++ rn ++ rt)
      (.ldurh imm9 rn rt)
      (singleRec .ldurh .W (imm9.signExtend 64) .offset rn rt) ∧
    exec (.ldurh imm9 rn rt) s =
      .next (s.delivered (singleRec .ldurh .W (imm9.signExtend 64) .offset rn rt)) ∧
    (∀ (p : BitVec 10) (c : Cell) (f : Family) (k : Fin 5), (p, c, f, k) ∈ ldrRows →
    CoreGives (p ++ 0b0#1 ++ imm9 ++ 0b00#2 ++ rn ++ rt)
      (.ldur c imm9 rn rt)
      (singleRec .ldur f (imm9.signExtend 64) .offset rn rt) ∧
    exec (.ldur c imm9 rn rt) s =
      .next (s.delivered (singleRec .ldur f (imm9.signExtend 64) .offset rn rt)))

/-- LDURSB, LDURSH and LDURSW, unscaled immediate offset: decoding, record and completion (R297, R298, R299). -/
def Obligations.UnscaledSignedLoads : Prop :=
  ∀ (imm9 : BitVec 9) (rn rt : RegIx) (s : State),
    CoreGives (0b1011100010#10 ++ 0b0#1 ++ imm9 ++ 0b00#2 ++ rn ++ rt)
      (.ldursw imm9 rn rt)
      (singleRec .ldursw .X (imm9.signExtend 64) .offset rn rt) ∧
    exec (.ldursw imm9 rn rt) s =
      .next (s.delivered (singleRec .ldursw .X (imm9.signExtend 64) .offset rn rt)) ∧
    (∀ (p : BitVec 10) (c : Cell) (f : Family) (k : Fin 5), (p, c, f, k) ∈ ldrsbRows →
    CoreGives (p ++ 0b0#1 ++ imm9 ++ 0b00#2 ++ rn ++ rt)
      (.ldursb c imm9 rn rt)
      (singleRec .ldursb f (imm9.signExtend 64) .offset rn rt) ∧
    exec (.ldursb c imm9 rn rt) s =
      .next (s.delivered (singleRec .ldursb f (imm9.signExtend 64) .offset rn rt))) ∧
    (∀ (p : BitVec 10) (c : Cell) (f : Family) (k : Fin 5), (p, c, f, k) ∈ ldrshRows →
    CoreGives (p ++ 0b0#1 ++ imm9 ++ 0b00#2 ++ rn ++ rt)
      (.ldursh c imm9 rn rt)
      (singleRec .ldursh f (imm9.signExtend 64) .offset rn rt) ∧
    exec (.ldursh c imm9 rn rt) s =
      .next (s.delivered (singleRec .ldursh f (imm9.signExtend 64) .offset rn rt)))

/-! ### Immediate, post-indexed (spec/45_ls_indexed.md) -/

/-- STRB, STRH and STR, immediate, post-indexed: decoding, record and completion (R321, R322, R323). -/
def Obligations.PostIndexedStores : Prop :=
  ∀ (imm9 : BitVec 9) (rn rt : RegIx) (s : State),
    CoreGives (0b0011100000#10 ++ 0b0#1 ++ imm9 ++ 0b01#2 ++ rn ++ rt)
      (.strbPost imm9 rn rt)
      (singleRec .strb .W (imm9.signExtend 64) .postIndex rn rt) ∧
    exec (.strbPost imm9 rn rt) s =
      .next (s.delivered (singleRec .strb .W (imm9.signExtend 64) .postIndex rn rt)) ∧
    CoreGives (0b0111100000#10 ++ 0b0#1 ++ imm9 ++ 0b01#2 ++ rn ++ rt)
      (.strhPost imm9 rn rt)
      (singleRec .strh .W (imm9.signExtend 64) .postIndex rn rt) ∧
    exec (.strhPost imm9 rn rt) s =
      .next (s.delivered (singleRec .strh .W (imm9.signExtend 64) .postIndex rn rt)) ∧
    (∀ (p : BitVec 10) (c : Cell) (f : Family) (k : Fin 5), (p, c, f, k) ∈ strRows →
    CoreGives (p ++ 0b0#1 ++ imm9 ++ 0b01#2 ++ rn ++ rt)
      (.strPost c imm9 rn rt)
      (singleRec .str f (imm9.signExtend 64) .postIndex rn rt) ∧
    exec (.strPost c imm9 rn rt) s =
      .next (s.delivered (singleRec .str f (imm9.signExtend 64) .postIndex rn rt)))

/-- LDRB, LDRH and LDR, immediate, post-indexed: decoding, record and completion (R324, R325, R326). -/
def Obligations.PostIndexedLoads : Prop :=
  ∀ (imm9 : BitVec 9) (rn rt : RegIx) (s : State),
    CoreGives (0b0011100001#10 ++ 0b0#1 ++ imm9 ++ 0b01#2 ++ rn ++ rt)
      (.ldrbPost imm9 rn rt)
      (singleRec .ldrb .W (imm9.signExtend 64) .postIndex rn rt) ∧
    exec (.ldrbPost imm9 rn rt) s =
      .next (s.delivered (singleRec .ldrb .W (imm9.signExtend 64) .postIndex rn rt)) ∧
    CoreGives (0b0111100001#10 ++ 0b0#1 ++ imm9 ++ 0b01#2 ++ rn ++ rt)
      (.ldrhPost imm9 rn rt)
      (singleRec .ldrh .W (imm9.signExtend 64) .postIndex rn rt) ∧
    exec (.ldrhPost imm9 rn rt) s =
      .next (s.delivered (singleRec .ldrh .W (imm9.signExtend 64) .postIndex rn rt)) ∧
    (∀ (p : BitVec 10) (c : Cell) (f : Family) (k : Fin 5), (p, c, f, k) ∈ ldrRows →
    CoreGives (p ++ 0b0#1 ++ imm9 ++ 0b01#2 ++ rn ++ rt)
      (.ldrPost c imm9 rn rt)
      (singleRec .ldr f (imm9.signExtend 64) .postIndex rn rt) ∧
    exec (.ldrPost c imm9 rn rt) s =
      .next (s.delivered (singleRec .ldr f (imm9.signExtend 64) .postIndex rn rt)))

/-- LDRSB, LDRSH and LDRSW, immediate, post-indexed: decoding, record and completion (R327, R328, R329). -/
def Obligations.PostIndexedSignedLoads : Prop :=
  ∀ (imm9 : BitVec 9) (rn rt : RegIx) (s : State),
    CoreGives (0b1011100010#10 ++ 0b0#1 ++ imm9 ++ 0b01#2 ++ rn ++ rt)
      (.ldrswPost imm9 rn rt)
      (singleRec .ldrsw .X (imm9.signExtend 64) .postIndex rn rt) ∧
    exec (.ldrswPost imm9 rn rt) s =
      .next (s.delivered (singleRec .ldrsw .X (imm9.signExtend 64) .postIndex rn rt)) ∧
    (∀ (p : BitVec 10) (c : Cell) (f : Family) (k : Fin 5), (p, c, f, k) ∈ ldrsbRows →
    CoreGives (p ++ 0b0#1 ++ imm9 ++ 0b01#2 ++ rn ++ rt)
      (.ldrsbPost c imm9 rn rt)
      (singleRec .ldrsb f (imm9.signExtend 64) .postIndex rn rt) ∧
    exec (.ldrsbPost c imm9 rn rt) s =
      .next (s.delivered (singleRec .ldrsb f (imm9.signExtend 64) .postIndex rn rt))) ∧
    (∀ (p : BitVec 10) (c : Cell) (f : Family) (k : Fin 5), (p, c, f, k) ∈ ldrshRows →
    CoreGives (p ++ 0b0#1 ++ imm9 ++ 0b01#2 ++ rn ++ rt)
      (.ldrshPost c imm9 rn rt)
      (singleRec .ldrsh f (imm9.signExtend 64) .postIndex rn rt) ∧
    exec (.ldrshPost c imm9 rn rt) s =
      .next (s.delivered (singleRec .ldrsh f (imm9.signExtend 64) .postIndex rn rt)))

/-! ### Immediate, pre-indexed (spec/45_ls_indexed.md) -/

/-- STRB, STRH and STR, immediate, pre-indexed: decoding, record and completion (R331, R332, R333). -/
def Obligations.PreIndexedStores : Prop :=
  ∀ (imm9 : BitVec 9) (rn rt : RegIx) (s : State),
    CoreGives (0b0011100000#10 ++ 0b0#1 ++ imm9 ++ 0b11#2 ++ rn ++ rt)
      (.strbPre imm9 rn rt)
      (singleRec .strb .W (imm9.signExtend 64) .preIndex rn rt) ∧
    exec (.strbPre imm9 rn rt) s =
      .next (s.delivered (singleRec .strb .W (imm9.signExtend 64) .preIndex rn rt)) ∧
    CoreGives (0b0111100000#10 ++ 0b0#1 ++ imm9 ++ 0b11#2 ++ rn ++ rt)
      (.strhPre imm9 rn rt)
      (singleRec .strh .W (imm9.signExtend 64) .preIndex rn rt) ∧
    exec (.strhPre imm9 rn rt) s =
      .next (s.delivered (singleRec .strh .W (imm9.signExtend 64) .preIndex rn rt)) ∧
    (∀ (p : BitVec 10) (c : Cell) (f : Family) (k : Fin 5), (p, c, f, k) ∈ strRows →
    CoreGives (p ++ 0b0#1 ++ imm9 ++ 0b11#2 ++ rn ++ rt)
      (.strPre c imm9 rn rt)
      (singleRec .str f (imm9.signExtend 64) .preIndex rn rt) ∧
    exec (.strPre c imm9 rn rt) s =
      .next (s.delivered (singleRec .str f (imm9.signExtend 64) .preIndex rn rt)))

/-- LDRB, LDRH and LDR, immediate, pre-indexed: decoding, record and completion (R334, R335, R336). -/
def Obligations.PreIndexedLoads : Prop :=
  ∀ (imm9 : BitVec 9) (rn rt : RegIx) (s : State),
    CoreGives (0b0011100001#10 ++ 0b0#1 ++ imm9 ++ 0b11#2 ++ rn ++ rt)
      (.ldrbPre imm9 rn rt)
      (singleRec .ldrb .W (imm9.signExtend 64) .preIndex rn rt) ∧
    exec (.ldrbPre imm9 rn rt) s =
      .next (s.delivered (singleRec .ldrb .W (imm9.signExtend 64) .preIndex rn rt)) ∧
    CoreGives (0b0111100001#10 ++ 0b0#1 ++ imm9 ++ 0b11#2 ++ rn ++ rt)
      (.ldrhPre imm9 rn rt)
      (singleRec .ldrh .W (imm9.signExtend 64) .preIndex rn rt) ∧
    exec (.ldrhPre imm9 rn rt) s =
      .next (s.delivered (singleRec .ldrh .W (imm9.signExtend 64) .preIndex rn rt)) ∧
    (∀ (p : BitVec 10) (c : Cell) (f : Family) (k : Fin 5), (p, c, f, k) ∈ ldrRows →
    CoreGives (p ++ 0b0#1 ++ imm9 ++ 0b11#2 ++ rn ++ rt)
      (.ldrPre c imm9 rn rt)
      (singleRec .ldr f (imm9.signExtend 64) .preIndex rn rt) ∧
    exec (.ldrPre c imm9 rn rt) s =
      .next (s.delivered (singleRec .ldr f (imm9.signExtend 64) .preIndex rn rt)))

/-- LDRSB, LDRSH and LDRSW, immediate, pre-indexed: decoding, record and completion (R337, R338, R339). -/
def Obligations.PreIndexedSignedLoads : Prop :=
  ∀ (imm9 : BitVec 9) (rn rt : RegIx) (s : State),
    CoreGives (0b1011100010#10 ++ 0b0#1 ++ imm9 ++ 0b11#2 ++ rn ++ rt)
      (.ldrswPre imm9 rn rt)
      (singleRec .ldrsw .X (imm9.signExtend 64) .preIndex rn rt) ∧
    exec (.ldrswPre imm9 rn rt) s =
      .next (s.delivered (singleRec .ldrsw .X (imm9.signExtend 64) .preIndex rn rt)) ∧
    (∀ (p : BitVec 10) (c : Cell) (f : Family) (k : Fin 5), (p, c, f, k) ∈ ldrsbRows →
    CoreGives (p ++ 0b0#1 ++ imm9 ++ 0b11#2 ++ rn ++ rt)
      (.ldrsbPre c imm9 rn rt)
      (singleRec .ldrsb f (imm9.signExtend 64) .preIndex rn rt) ∧
    exec (.ldrsbPre c imm9 rn rt) s =
      .next (s.delivered (singleRec .ldrsb f (imm9.signExtend 64) .preIndex rn rt))) ∧
    (∀ (p : BitVec 10) (c : Cell) (f : Family) (k : Fin 5), (p, c, f, k) ∈ ldrshRows →
    CoreGives (p ++ 0b0#1 ++ imm9 ++ 0b11#2 ++ rn ++ rt)
      (.ldrshPre c imm9 rn rt)
      (singleRec .ldrsh f (imm9.signExtend 64) .preIndex rn rt) ∧
    exec (.ldrshPre c imm9 rn rt) s =
      .next (s.delivered (singleRec .ldrsh f (imm9.signExtend 64) .preIndex rn rt)))

/-! ### Undefined, Unimplemented and delegated words (spec/30_encoding.md, 40_dispatch.md, 60_exceptions.md) -/

/-- Which words are Undefined, by reason: the causes of R401 and R132, both directions. -/
def Obligations.UndefinedWordsExactly : Prop :=
  ∀ w : Word,
    (dispatch w = .undefined .reservedGroup ↔ bitAt w 31 = false ∧ fT w = 0b0000) ∧
    (dispatch w = .undefined .unallocatedType ↔ fT w = 0b0001 ∨ fT w = 0b0011) ∧
    (dispatch w = .undefined .simdLsStruct ↔ isSimdStruct w = true ∧ fOp2 w ≠ 0b11 ∧ fOp3Low w ≠ 0b00000) ∧
    (dispatch w = .undefined .pairOpc11 ↔ isPair w = true ∧ fOp2 w ≠ 0b00 ∧ fTop2 w = 0b11) ∧
    (dispatch w = .undefined .lsUimmCell ↔ isRegOrAtomic w = true ∧ fOp2h w = true ∧ fCell w ∈ undefCellsUimm) ∧
    (dispatch w = .undefined .lsRegoffCell ↔
      isRegOrAtomic w = true ∧ fOp2h w = false ∧ fB21 w = true ∧ fOp4 w = 0b10 ∧ fCell w ∈ undefCellsRegoff) ∧
    (dispatch w = .undefined .lsUnscaledCell ↔
      isRegOrAtomic w = true ∧ fOp2h w = false ∧ fB21 w = false ∧ fOp4 w = 0b00 ∧ fCell w ∈ undefCellsUimm) ∧
    (dispatch w = .undefined .lsIndexedCell ↔
      isRegOrAtomic w = true ∧ fOp2h w = false ∧ fB21 w = false ∧ (fOp4 w = 0b01 ∨ fOp4 w = 0b11) ∧
        fCell w ∈ undefCellsIdx) ∧
    ∀ k : Nat, dispatch w ≠ .undefined (.collab k)

/-- Which words are Unimplemented, by kind: the causes of R402 and R133, both directions; EXCL_ORDERED_CAS for none (R175). -/
def Obligations.UnimplementedWordsExactly : Prop :=
  ∀ w : Word,
    (dispatch w = .unimplemented .sme ↔ bitAt w 31 = true ∧ fT w = 0b0000) ∧
    (dispatch w = .unimplemented .memoryTags ↔ isMemoryTags w = true) ∧
    (dispatch w = .unimplemented .exclusivePair ↔ isLoadStore w = true ∧ (fOp0 w = 0b1000 ∨ fOp0 w = 0b1100)) ∧
    dispatch w ≠ .unimplemented .exclOrderedCas ∧
    (dispatch w = .unimplemented .ldaprLiteralMemcpy ↔
      isLoadStore w = true ∧ fOp0Low w = 0b01 ∧ isMemoryTags w = false) ∧
    (dispatch w = .unimplemented .noallocPair ↔ isPair w = true ∧ fOp2 w = 0b00) ∧
    (dispatch w = .unimplemented .atomic ↔
      isRegOrAtomic w = true ∧ fOp2h w = false ∧ fB21 w = true ∧ fOp4 w = 0b00) ∧
    (dispatch w = .unimplemented .pac ↔
      isRegOrAtomic w = true ∧ fOp2h w = false ∧ fB21 w = true ∧ (fOp4 w = 0b01 ∨ fOp4 w = 0b11)) ∧
    (dispatch w = .unimplemented .unprivileged ↔
      isRegOrAtomic w = true ∧ fOp2h w = false ∧ fB21 w = false ∧ fOp4 w = 0b10) ∧
    (dispatch w = .unimplemented .prfm ↔
      isRegOrAtomic w = true ∧
        ((fOp2h w = true ∧ fCell w = ⟨0b11, 0b10, false⟩) ∨
          (fOp2h w = false ∧ fB21 w = true ∧ fOp4 w = 0b10 ∧
            (fCell w = ⟨0b10, 0b11, false⟩ ∨ fCell w = ⟨0b11, 0b10, false⟩)))) ∧
    (dispatch w = .unimplemented .prfum ↔
      isRegOrAtomic w = true ∧ fOp2h w = false ∧ fB21 w = false ∧ fOp4 w = 0b00 ∧
        fCell w = ⟨0b11, 0b10, false⟩) ∧
    ∀ k : Nat, dispatch w ≠ .unimplemented (.collab k)

/-- Which words are delegated to which collaborator (R130, R131, R172), both directions. -/
def Obligations.DelegatedWordsExactly : Prop :=
  ∀ w : Word,
    (dispatch w = .delegate .sve ↔ fT w = 0b0010) ∧
    (dispatch w = .delegate .dpi ↔ fT w = 0b1000 ∨ fT w = 0b1001) ∧
    (dispatch w = .delegate .bes ↔ fT w = 0b1010 ∨ fT w = 0b1011) ∧
    (dispatch w = .delegate .dpr ↔ fT w = 0b0101 ∨ fT w = 0b1101) ∧
    (dispatch w = .delegate .simd ↔ fT w = 0b0111 ∨ fT w = 0b1111) ∧
    (dispatch w = .delegate .simdLsSinglePost ↔ isSimdStruct w = true ∧ fOp2 w = 0b11) ∧
    (dispatch w = .delegate .simdLsSingle ↔ isSimdStruct w = true ∧ fOp2 w ≠ 0b11 ∧ fOp3Low w = 0b00000)

/-- `OnUndefined` with continue_on_error (R406, R417): each of the eight Undefined instructions completes with INVALID_REC. -/
def Obligations.UndefinedWordsBecomeInvalidRecords : Prop :=
  ∀ (w : Word) (s : State), s.flags.continueOnError = true →
    exec (.undefReservedGroup w) s = .next (s.delivered { mnemonic := .invalid }) ∧
    exec (.undefUnallocatedType w) s = .next (s.delivered { mnemonic := .invalid }) ∧
    exec (.undefSimdLsStruct w) s = .next (s.delivered { mnemonic := .invalid }) ∧
    exec (.undefPairOpc11 w) s = .next (s.delivered { mnemonic := .invalid }) ∧
    exec (.undefLsUimmCell w) s = .next (s.delivered { mnemonic := .invalid }) ∧
    exec (.undefLsRegoffCell w) s = .next (s.delivered { mnemonic := .invalid }) ∧
    exec (.undefLsUnscaledCell w) s = .next (s.delivered { mnemonic := .invalid }) ∧
    exec (.undefLsIndexedCell w) s = .next (s.delivered { mnemonic := .invalid })

/-- `OnUndefined` without continue_on_error (R406, R411): where each of the eight traps, and with what context. -/
def Obligations.UndefinedWordsAreSurfaced : Prop :=
  ∀ (w : Word) (s : State), s.flags.continueOnError = false →
    exec (.undefReservedGroup w) s = .next (s.surfaced (.undefined w s.i .reservedGroup)) ∧
    exec (.undefUnallocatedType w) s = .next (s.surfaced (.undefined w s.i .unallocatedType)) ∧
    exec (.undefSimdLsStruct w) s = .next (s.surfaced (.undefined w s.i .simdLsStruct)) ∧
    exec (.undefPairOpc11 w) s = .next (s.surfaced (.undefined w s.i .pairOpc11)) ∧
    exec (.undefLsUimmCell w) s = .next (s.surfaced (.undefined w s.i .lsUimmCell)) ∧
    exec (.undefLsRegoffCell w) s = .next (s.surfaced (.undefined w s.i .lsRegoffCell)) ∧
    exec (.undefLsUnscaledCell w) s = .next (s.surfaced (.undefined w s.i .lsUnscaledCell)) ∧
    exec (.undefLsIndexedCell w) s = .next (s.surfaced (.undefined w s.i .lsIndexedCell))

/-- Step 6 of R91 with throw_on_unimplemented clear (R408, R418): each of the twelve instructions completes with
UNIMPL_REC(kind). -/
def Obligations.UnimplementedWordsBecomeInertRecords : Prop :=
  ∀ (w : Word) (imm12 : BitVec 12) (imm9 : BitVec 9) (rm : RegIx) (option : BitVec 3) (sBit : Bool) (rn rt : RegIx)
    (s : State), s.flags.throwOnUnimplemented = false →
    exec (.unimplSme w) s =
      .next (s.delivered { mnemonic := .unimplemented, category := some (.unimpl .sme) }) ∧
    exec (.unimplMemoryTags w) s =
      .next (s.delivered { mnemonic := .unimplemented, category := some (.unimpl .memoryTags) }) ∧
    exec (.unimplExclusivePair w) s =
      .next (s.delivered { mnemonic := .unimplemented, category := some (.unimpl .exclusivePair) }) ∧
    exec (.unimplExclOrderedCas w) s =
      .next (s.delivered { mnemonic := .unimplemented, category := some (.unimpl .exclOrderedCas) }) ∧
    exec (.unimplLdaprLiteralMemcpy w) s =
      .next (s.delivered { mnemonic := .unimplemented, category := some (.unimpl .ldaprLiteralMemcpy) }) ∧
    exec (.unimplNoallocPair w) s =
      .next (s.delivered { mnemonic := .unimplemented, category := some (.unimpl .noallocPair) }) ∧
    exec (.unimplAtomic w) s =
      .next (s.delivered { mnemonic := .unimplemented, category := some (.unimpl .atomic) }) ∧
    exec (.unimplPac w) s =
      .next (s.delivered { mnemonic := .unimplemented, category := some (.unimpl .pac) }) ∧
    exec (.unimplUnprivileged w) s =
      .next (s.delivered { mnemonic := .unimplemented, category := some (.unimpl .unprivileged) }) ∧
    exec (.prfmUimm imm12 rn rt) s =
      .next (s.delivered { mnemonic := .unimplemented, category := some (.unimpl .prfm) }) ∧
    exec (.prfum imm9 rn rt) s =
      .next (s.delivered { mnemonic := .unimplemented, category := some (.unimpl .prfum) }) ∧
    ∀ c : Cell, exec (.prfmRegoff c rm option sBit rn rt) s =
      .next (s.delivered { mnemonic := .unimplemented, category := some (.unimpl .prfm) })

/-- Step 6 of R91 with throw_on_unimplemented set (R408, R411): where each of the twelve traps, and with what context. -/
def Obligations.UnimplementedWordsAreSurfaced : Prop :=
  ∀ (w : Word) (imm12 : BitVec 12) (imm9 : BitVec 9) (rm : RegIx) (option : BitVec 3) (sBit : Bool) (rn rt : RegIx)
    (s : State), s.flags.throwOnUnimplemented = true →
    exec (.unimplSme w) s = .next (s.surfaced (.unimplemented w s.i (some (.unimpl .sme)))) ∧
    exec (.unimplMemoryTags w) s = .next (s.surfaced (.unimplemented w s.i (some (.unimpl .memoryTags)))) ∧
    exec (.unimplExclusivePair w) s = .next (s.surfaced (.unimplemented w s.i (some (.unimpl .exclusivePair)))) ∧
    exec (.unimplExclOrderedCas w) s = .next (s.surfaced (.unimplemented w s.i (some (.unimpl .exclOrderedCas)))) ∧
    exec (.unimplLdaprLiteralMemcpy w) s = .next (s.surfaced (.unimplemented w s.i (some (.unimpl .ldaprLiteralMemcpy)))) ∧
    exec (.unimplNoallocPair w) s = .next (s.surfaced (.unimplemented w s.i (some (.unimpl .noallocPair)))) ∧
    exec (.unimplAtomic w) s = .next (s.surfaced (.unimplemented w s.i (some (.unimpl .atomic)))) ∧
    exec (.unimplPac w) s = .next (s.surfaced (.unimplemented w s.i (some (.unimpl .pac)))) ∧
    exec (.unimplUnprivileged w) s = .next (s.surfaced (.unimplemented w s.i (some (.unimpl .unprivileged)))) ∧
    exec (.prfmUimm imm12 rn rt) s =
      .next (s.surfaced (.unimplemented (0b1011100111#10 ++ imm12 ++ rn ++ rt) s.i (some (.unimpl .prfm)))) ∧
    exec (.prfum imm9 rn rt) s =
      .next (s.surfaced (.unimplemented (0b1011100011#10 ++ 0b0#1 ++ imm9 ++ 0b00#2 ++ rn ++ rt) s.i (some (.unimpl .prfum)))) ∧
    (∀ (p : BitVec 10) (c : Cell), (p = 0b1111100010#10 ∧ c = ⟨0b10, 0b11, false⟩) ∨
        (p = 0b1011100011#10 ∧ c = ⟨0b11, 0b10, false⟩) →
      exec (.prfmRegoff c rm option sBit rn rt) s =
        .next (s.surfaced (.unimplemented (p ++ 0b1#1 ++ rm ++ option ++ BitVec.ofBool sBit ++ 0b10#2 ++ rn ++ rt) s.i
          (some (.unimpl .prfm)))))

/-- `DecodeFull` for a delegated word (R177) and what the sequencer does with the result (R91, R404, R406-R408). That a
collaborator's record is put under R43's law is the model's choice (log entry 5). -/
def Obligations.DelegatedWordsFollowTheCollaborator : Prop :=
  ∀ (w : Word) (s : State),
    exec (.delegateSve w) s = .next (s.afterCollab w (Config.collab .sve w)) ∧
    exec (.delegateDpi w) s = .next (s.afterCollab w (Config.collab .dpi w)) ∧
    exec (.delegateBes w) s = .next (s.afterCollab w (Config.collab .bes w)) ∧
    exec (.delegateDpr w) s = .next (s.afterCollab w (Config.collab .dpr w)) ∧
    exec (.delegateSimd w) s = .next (s.afterCollab w (Config.collab .simd w)) ∧
    exec (.delegateSimdLsSingle w) s = .next (s.afterCollab w (Config.collab .simdLsSingle w)) ∧
    exec (.delegateSimdLsSinglePost w) s = .next (s.afterCollab w (Config.collab .simdLsSinglePost w))

/-- Delegated instructions complete under the lenient flags, for every collaborator (R406-R408). -/
def Obligations.DelegatedWordsComplete : Prop :=
  ∀ (w : Word) (s : State), s.flags.continueOnError = true → s.flags.throwOnUnimplemented = false →
    (∃ r : Record, exec (.delegateSve w) s = .next (s.delivered r)) ∧
    (∃ r : Record, exec (.delegateDpi w) s = .next (s.delivered r)) ∧
    (∃ r : Record, exec (.delegateBes w) s = .next (s.delivered r)) ∧
    (∃ r : Record, exec (.delegateDpr w) s = .next (s.delivered r)) ∧
    (∃ r : Record, exec (.delegateSimd w) s = .next (s.delivered r)) ∧
    (∃ r : Record, exec (.delegateSimdLsSingle w) s = .next (s.delivered r)) ∧
    (∃ r : Record, exec (.delegateSimdLsSinglePost w) s = .next (s.delivered r))

/-- What R34, R35, R41, R43 and R47 say of every `Ok` record; the fields no rule of the word's form names are at identity (R41),
as `pairRec`, `singleRec` and `regoffRec` leave them. -/
def Obligations.OkRecordsOfTheCore : Prop :=
  ∀ (w : Word) (r : Record), dispatch w = .ok r →
    r.category = some .loadStore ∧ r.op0Kind = .register ∧ (∃ f : Family, f ≠ .SP ∧ r.op0Reg = .reg f (fRt w)) ∧
    r.memBase = .reg .X (fRn w) ∧ r.op2Reg = .none ∧ r.op0Imm = 0 ∧ r.op1Imm = 0 ∧ r.op2Imm = 0 ∧ r.op3Kind = .none ∧
    r.address = 0 ∧ r.memIsPreIndexed = decide (r.memMode = .preIndex) ∧ r.mnemonic ≠ .invalid ∧
    r.mnemonic ≠ .unimplemented ∧ r.mnemonic ≠ .prfm ∧ r.mnemonic ≠ .prfum ∧ (∀ k : Nat, r.mnemonic ≠ .collab k) ∧
    (∀ n : RegIx, r.op1Reg ≠ .reg .SP n ∧ r.memAddendReg ≠ .reg .SP n) ∧
    if fOp0Low w = 0b10 then
      ∃ (f : Family) (scale : Nat), f ≠ .SP ∧
        r = pairRec r.mnemonic f scale r.memMode (fImm7 w) (fRt2 w) (fRn w) (fRt w)
    else if fOp2h w = false ∧ fB21 w = true then
      ∃ (f : Family) (a : Fin 5), f ≠ .SP ∧
        r = regoffRec r.mnemonic f a (fRm w) (fOption w) (fS w) (fRn w) (fRt w)
    else
      ∃ f : Family, f ≠ .SP ∧ r = singleRec r.mnemonic f r.memOffset r.memMode (fRn w) (fRt w)

/-! ### The sequencer: one step (spec/20_memory.md, 60_exceptions.md) -/

/-- A step runs the decoded instruction (R91 steps 1 and 2); the word is little-endian (R81), here as a concatenation of the four
bytes, the most significant first. -/
def Obligations.StepRunsTheDecodedInstruction : Prop :=
  (∀ b0 b1 b2 b3 : Byte, wordOfBytes b0 b1 b2 b3 = b3 ++ b2 ++ b1 ++ b0) ∧
  ∀ (s : State) (b0 b1 b2 b3 : Byte),
    s.bufWritten = false → s.status = .running → s.i % 4 = 0 → (s.i = 0 → s.mem.len % 4 = 0) →
    s.mem.read s.i = some b0 → s.mem.read (s.i + 1) = some b1 → s.mem.read (s.i + 2) = some b2 →
    s.mem.read (s.i + 3) = some b3 →
    decodeBytes [b0, b1, b2, b3] = .ok (decodeWord (b3 ++ b2 ++ b1 ++ b0), []) ∧
    step s = exec (decodeWord (b3 ++ b2 ++ b1 ++ b0)) s

/-- The two paths through the unit agree: decode and execute, and the pure core of R30 under `SeqWord` (R91, R177). -/
def Obligations.ExecAgreesWithTheDecodeCore : Prop :=
  ∀ (w : Word) (s : State), exec (decodeWord w) s = .next (s.seqWord w (dispatch w))

/-- Everything an instruction can do (R52, R84, R411); the frame of every instruction. The law on collaborators' and remapped
records is the model's choice (log entry 5). -/
def Obligations.ExecDeliversOneRecordOrSurfaces : Prop :=
  ∀ (i : Instr) (s : State),
    (∃ r : Record,
      exec i s = .next { s with
        out := s.out ++ [r], i := s.i + 4, reply := if s.shape = .lazy then some (.item r) else s.reply } ∧
      r.address = s.va + BitVec.ofNat 64 s.i ∧ r.memIsPreIndexed = decide (r.memMode = .preIndex)) ∨
    (∃ e : CallError, exec i s = .next (s.surfaced e) ∧ e.offset = some s.i)

/-- The buffer and the flags are read-only to the unit (R80, R51): every byte reads as before. -/
def Obligations.StepWritesOnlySequencerState : Prop :=
  ∀ s t : State, step s = .next t →
    (∀ a : Nat, t.mem.read a = s.mem.read a) ∧ t.mem = s.mem ∧ t.va = s.va ∧ t.flags = s.flags ∧ t.shape = s.shape ∧
      t.bufWritten = s.bufWritten

/-- The Structural check comes before everything (R83, R403, R410 point 1). -/
def Obligations.StructuralErrorComesFirst : Prop :=
  ∀ (shape : Shape) (bs : List Byte) (va : Addr) (flags : Flags), bs.length % 4 ≠ 0 →
    step (State.start shape bs va flags) =
      .next { State.start shape bs va flags with
        status := .failed (.structural bs.length), reply := some (.error (.structural bs.length)) }

/-- The end of a call (R92, R93). That a step after an ended eager call does nothing is the model's choice (log entry 10). -/
def Obligations.EndOfWordsAndAfter : Prop :=
  ∀ s : State, s.bufWritten = false →
    (s.status = .running → s.i = s.mem.len → s.mem.len % 4 = 0 →
      step s = .next { s with
        status := .done
        reply := if s.shape = .lazy then some .streamEnd else some (.returned s.out s.va) }) ∧
    (s.status ≠ .running → s.shape = .lazy → step s = .next { s with reply := some .streamEnd }) ∧
    (s.status ≠ .running → s.shape = .eager → step s = .next s)

/-- The buffer stability rule (R96, R454); where a stream's last pull stands is the model's choice (log entry 8), and so is what a
step after an ended eager call does (log entry 10). -/
def Obligations.WrittenBufferIsRefused : Prop :=
  ∀ (s : State) (a : Nat) (b : Byte), a < s.mem.len → s.mem.wf = true →
    (s.status = .running ∨ s.shape = .lazy → step (s.hostWrite a b) = .refused .bufferWritten) ∧
    (s.status ≠ .running → s.shape = .eager → s.bufWritten = false →
      (s.hostWrite a b).mem.read a = some b ∧ (∀ a' : Nat, a' ≠ a → (s.hostWrite a b).mem.read a' = s.mem.read a') ∧
        step (s.hostWrite a b) = .next (s.hostWrite a b))

/-! ### The sequencer: invariants and whole calls (spec/10_state.md, 20_memory.md, 70_reset_and_hazards.md) -/

/-- The invariant of a call (R50, R52, R83, R84, R43) is kept by every step; R43's law on collaborators' records is the model's
choice (log entry 5). -/
def Obligations.EveryStepKeepsTheCallInvariant : Prop :=
  ∀ s t : State, s.Inv → step s = .next t → t.Inv

/-- The invariant holds at the start of a call (R451) and at reset, whose caller inputs are the model's choice (log entry 4). -/
def Obligations.StartAndResetMeetTheCallInvariant : Prop :=
  (∀ (shape : Shape) (bs : List Byte) (va : Addr) (flags : Flags), (State.start shape bs va flags).Inv) ∧ State.reset.Inv

/-- No stop in a well-formed call (R80, R82, R85, R176). -/
def Obligations.NoStopFromInvariantStates : Prop :=
  ∀ s : State, s.Inv → s.bufWritten = false → ∃ t : State, step s = .next t

/-- A call runs until its last word or its first surfaced error (R415), one step a word (R455). -/
def Obligations.CallsEnd : Prop :=
  ∀ s : State, s.Inv → s.bufWritten = false → s.status = .running →
    ∃ n : Nat, n ≤ (s.mem.len - s.i) / 4 + 1 ∧ ∃ t : State, Sys2Proof.core.run n s = .next t ∧ t.status ≠ .running

/-- The step machine refines the pseudocode of R92. -/
def Obligations.EagerRunIsSeqCall : Prop :=
  ∀ (bs : List Byte) (va : Addr) (flags : Flags), ∃ t : State,
    Sys2Proof.core.run (bs.length / 4 + 1) (State.start .eager bs va flags) = .next t ∧
    match seqCall bs va flags with
    | .ok (out, startVa) => t.status = .done ∧ t.out = out ∧ t.reply = some (.returned out startVa)
    | .error e => t.status = .failed e ∧ t.out = [] ∧ t.reply = some (.error e)

/-- R94: the eager and lazy shapes agree. -/
def Obligations.LazyStreamAgreesWithEagerCall : Prop :=
  ∀ (bs : List Byte) (va : Addr) (flags : Flags),
    (∀ (out : List Record) (startVa : Addr), seqCall bs va flags = .ok (out, startVa) →
      pulls (out.length + 1) (State.start .lazy bs va flags) = some (out.map .item ++ [.streamEnd])) ∧
    (∀ (e : CallError) (o : Nat), seqCall bs va flags = .error e → e.offset = some o →
      ∃ out : List Record, seqCall (bs.take o) va flags = .ok (out, va) ∧ 4 * out.length = o ∧
        pulls (out.length + 1) (State.start .lazy bs va flags) = some (out.map .item ++ [.error e])) ∧
    (∀ e : CallError, seqCall bs va flags = .error e → e.offset = none →
      pulls 1 (State.start .lazy bs va flags) = some [.error e])

/-- R98: the partition law. -/
def Obligations.PartitionLaw : Prop :=
  ∀ (bs : List Byte) (va : Addr) (flags : Flags) (out : List Record) (startVa : Addr) (a : Nat),
    seqCall bs va flags = .ok (out, startVa) → a % 4 = 0 → a ≤ bs.length →
    seqCall (bs.take a) va flags = .ok (out.take (a / 4), va) ∧
      seqCall (bs.drop a) (va + BitVec.ofNat 64 a) flags = .ok (out.drop (a / 4), va + BitVec.ofNat 64 a)

/-- R84, the document's address law, with R92's length of `out`. -/
def Obligations.AddressLawOfCalls : Prop :=
  ∀ (bs : List Byte) (va : Addr) (flags : Flags) (out : List Record) (startVa : Addr),
    seqCall bs va flags = .ok (out, startVa) →
    startVa = va ∧ 4 * out.length = bs.length ∧
      ∀ (k : Nat) (r : Record), out[k]? = some r → r.address = va + BitVec.ofNat 64 (4 * k)

/-- R410 point 2 and the precision of R411. -/
def Obligations.FirstFailingWordEndsTheCall : Prop :=
  ∀ (bs : List Byte) (va : Addr) (flags : Flags) (e : CallError) (o : Nat),
    seqCall bs va flags = .error e → e.offset = some o →
    o % 4 = 0 ∧ o + 4 ≤ bs.length ∧ (∃ out : List Record, seqCall (bs.take o) va flags = .ok (out, va)) ∧
    ∃ b0 b1 b2 b3 : Byte, bs[o]? = some b0 ∧ bs[o + 1]? = some b1 ∧ bs[o + 2]? = some b2 ∧ bs[o + 3]? = some b3 ∧
      seqRecord flags va o (wordOfBytes b0 b1 b2 b3)
        (decodeFull (wordOfBytes b0 b1 b2 b3) (dispatch (wordOfBytes b0 b1 b2 b3))) = .error e

/-- No word influences another's record (R95, R453). -/
def Obligations.RecordDependsOnItsOwnWordAlone : Prop :=
  ∀ (bs bs' : List Byte) (va : Addr) (flags : Flags) (out out' : List Record) (v v' : Addr),
    seqCall bs va flags = .ok (out, v) → seqCall bs' va flags = .ok (out', v') →
    ∀ k : Nat, 4 * k + 3 < bs.length → (∀ j : Nat, j < 4 → bs[4 * k + j]? = bs'[4 * k + j]?) →
      ∃ r : Record, out[k]? = some r ∧ out'[k]? = some r

/-- R412: what a caller does instead of returning from the trap, in both shapes (log entries 10, 19). -/
def Obligations.RestartAfterAFailedCall : Prop :=
  ∀ (shape : Shape) (bs : List Byte) (va : Addr) (flags : Flags) (e : CallError) (o : Nat),
    seqCall bs va flags = .error e → e.offset = some o →
    ∀ n : Nat, o / 4 < n →
      ∃ t : State, Sys2Proof.core.run n (State.start shape bs va flags) = .next t ∧ t.status = .failed e ∧
        t.restart = some (State.start shape (bs.drop (o + 4)) (va + BitVec.ofNat 64 (o + 4)) flags)

/-- R54: the reset values. -/
def Obligations.StartOfCallValues : Prop :=
  ∀ (shape : Shape) (bs : List Byte) (va : Addr) (remap cont throwU : Option Bool),
    (State.start shape bs va (Flags.ofCaller remap cont throwU)).i = 0 ∧
    (State.start shape bs va (Flags.ofCaller remap cont throwU)).out = [] ∧
    (State.start shape bs va (Flags.ofCaller remap cont throwU)).status = .running ∧
    (State.start shape bs va (Flags.ofCaller remap cont throwU)).va = va ∧
    (∀ a : Nat, (State.start shape bs va (Flags.ofCaller remap cont throwU)).mem.read a = bs[a]?) ∧
    (State.start shape bs va (Flags.ofCaller remap cont throwU)).flags.remapAliases = remap.getD true ∧
    (State.start shape bs va (Flags.ofCaller remap cont throwU)).flags.continueOnError = cont.getD false ∧
    (State.start shape bs va (Flags.ofCaller remap cont throwU)).flags.throwOnUnimplemented = throwU.getD true

/-! ### Codes, the control register, and the sign-extender (spec/10_state.md, 30_encoding.md) -/

/-- R32's dense enumeration of the register identities. -/
def Obligations.RegisterCodesAreDense : Prop :=
  (∀ n : RegIx,
    (RegId.reg .X n).code.toNat = 1 + n.toNat ∧ (RegId.reg .W n).code.toNat = 33 + n.toNat ∧
    (RegId.reg .V n).code.toNat = 65 + n.toNat ∧ (RegId.reg .B n).code.toNat = 97 + n.toNat ∧
    (RegId.reg .H n).code.toNat = 129 + n.toNat ∧ (RegId.reg .S n).code.toNat = 161 + n.toNat ∧
    (RegId.reg .D n).code.toNat = 193 + n.toNat ∧ (RegId.reg .SP n).code.toNat = 225 + n.toNat) ∧
  RegId.none.code = 0 ∧ (∀ a b : RegId, a.code = b.code → a = b) ∧ ∀ c : Nat, c ≤ 256 → ∃ a : RegId, a.code.toNat = c

/-- R51's control register. -/
def Obligations.FlagRegisterBits : Prop :=
  (∀ f : Flags, f.toBits.getLsbD 0 = f.remapAliases ∧ f.toBits.getLsbD 1 = f.continueOnError ∧
    f.toBits.getLsbD 2 = f.throwOnUnimplemented ∧ Flags.ofBits f.toBits = f) ∧
  (∀ b : BitVec 3, (Flags.ofBits b).toBits = b) ∧ (Flags.ofCaller none none none).toBits = 0b101#3

/-- The codes of R42-R45, R401 and R402, value by value, and that they tell the values apart. That collaborators' operand kinds
have codes from 8 on is the model's choice (log entry 9). -/
def Obligations.OutputCodesAreDistinct : Prop :=
  [OpKind.none, .register, .immediate, .memory, .floatImmediate, .shiftedImmediate, .condition, .pageRelative].map
      OpKind.code = [0, 1, 2, 3, 4, 5, 6, 7] ∧
  (∀ k : OpKind, 8 ≤ k.code ↔ ∃ j : Nat, k = .collab j) ∧ (∀ a b : OpKind, a.code = b.code → a = b) ∧
  [MemMode.offset, .preIndex, .postIndex].map MemMode.code = [0, 1, 2] ∧
  (∀ a b : MemMode, a.code = b.code → a = b) ∧
  [Mnemonic.invalid, .unimplemented, .str, .ldr, .strb, .ldrb, .strh, .ldrh, .ldrsb, .ldrsh, .ldrsw].map Mnemonic.code =
      [0, 1, 2, 3, 4, 5, 6, 7, 8, 9, 10] ∧
  [Mnemonic.stur, .ldur, .sturb, .sturh, .ldurb, .ldurh, .ldursb, .ldursh, .ldursw].map Mnemonic.code =
      [11, 12, 13, 14, 15, 16, 17, 18, 19] ∧
  [Mnemonic.stp, .ldp, .stgp, .ldpsw, .prfm, .prfum].map Mnemonic.code = [20, 21, 22, 23, 24, 25] ∧
  (∀ a b : Mnemonic, a.code = b.code → a = b) ∧
  (∀ m : Mnemonic, 64 ≤ m.code ↔ ∃ k : Nat, m = .collab k) ∧ (∀ m : Mnemonic, m.code < 64 → m.code < 26) ∧
  (∀ c : BitVec 3, (Ext.ext c).code.toNat = c.toNat) ∧ Ext.none.code = 8 ∧ (∀ a b : Ext, a.code = b.code → a = b) ∧
  [Shift.none, .lsl, .lsr, .asr, .ror].map Shift.code = [0, 1, 2, 3, 4] ∧ (∀ a b : Shift, a.code = b.code → a = b) ∧
  [UndefReason.reservedGroup, .unallocatedType, .simdLsStruct, .pairOpc11, .lsUimmCell, .lsRegoffCell, .lsUnscaledCell,
      .lsIndexedCell].map UndefReason.code = [some 1, some 2, some 3, some 4, some 5, some 6, some 7, some 8] ∧
  (∀ (a b : UndefReason) (n : Nat), a.code = some n → b.code = some n → a = b) ∧
  [UnimplKind.sme, .memoryTags, .exclusivePair, .exclOrderedCas, .ldaprLiteralMemcpy, .noallocPair, .atomic, .pac,
      .unprivileged, .prfm, .prfum].map UnimplKind.code =
    [some 1, some 2, some 3, some 4, some 5, some 6, some 7, some 8, some 9, some 10, some 11] ∧
  (∀ (a b : UnimplKind) (n : Nat), a.code = some n → b.code = some n → a = b)

/-- R117: the sign-extender, the zero-extender and the single-bit test. -/
def Obligations.SignExtenderArithmetic : Prop :=
  ∀ (v : Imm) (n : Nat), 1 ≤ n → n ≤ 64 →
    (sext n v).toInt =
      (if 2 ^ (n - 1) ≤ v.toNat % 2 ^ n then ((v.toNat % 2 ^ n : Nat) : Int) - 2 ^ n else ((v.toNat % 2 ^ n : Nat) : Int)) ∧
    (zext n v).toNat = v.toNat % 2 ^ n ∧ ∀ k : Nat, bit v k = if v.getLsbD k then 1 else 0

/-- R118, R119 and R120: the offset formulas are exact in signed 64-bit arithmetic. -/
def Obligations.OffsetsAreExactAndInRange : Prop :=
  (∀ (imm7 : BitVec 7) (bits : Nat), bits = 32 ∨ bits = 64 ∨ bits = 128 →
    (pairOffset imm7 bits).toInt = imm7.toInt * ((bits / 8 : Nat) : Int) ∧
      -64 * ((bits / 8 : Nat) : Int) ≤ (pairOffset imm7 bits).toInt ∧
      (pairOffset imm7 bits).toInt ≤ 63 * ((bits / 8 : Nat) : Int)) ∧
  (∀ (imm12 : BitVec 12) (size : BitVec 2),
    (uimmOffset imm12 size).toInt = ((imm12.toNat * 2 ^ size.toNat : Nat) : Int) ∧
      (uimmOffset imm12 size).toInt ≤ 32760) ∧
  ∀ imm9 : BitVec 9, (imm9Offset imm9).toInt = imm9.toInt ∧ -256 ≤ (imm9Offset imm9).toInt ∧
    (imm9Offset imm9).toInt ≤ 255 ∧ ((imm9Offset imm9).toInt < 0 ↔ imm9.getLsbD 8 = true)

/-! ### Encoding (spec/30_encoding.md) -/

/-- Decode and encode agree: no operand bit of any format is dropped (R113-R116). -/
def Obligations.DecodeOfEncode : Prop :=
  ∀ i : Instr, i.wf = true → decodeWord (encode i) = i

/-- Every word is exactly one well-formed instruction (R134, R176). -/
def Obligations.EncodeOfDecode : Prop :=
  ∀ w : Word, (decodeWord w).wf = true ∧ encode (decodeWord w) = w

/-- The core against the opcode table, row by row (R135). -/
def Obligations.OpcodeTableRowsAgreeWithTheCore : Prop :=
  opcodeTable.length = 351 ∧ ∀ row ∈ opcodeTable, ∀ w : Word, row.Matches w → row.outcome.Holds w

/-- R135: the rows are pairwise disjoint. -/
def Obligations.OpcodeTableRowsAreDisjoint : Prop :=
  opcodeTable.Pairwise fun row row' => ∀ w : Word, ¬(row.Matches w ∧ row'.Matches w)

/-- R135: the rows together cover all words. -/
def Obligations.OpcodeTableCoversEveryWord : Prop :=
  ∀ w : Word, ∃ row ∈ opcodeTable, row.Matches w

/-- The examples of R203, R204, R236, R293, R265 and R170. -/
def Obligations.SpecExampleWordsDecode : Prop :=
  decodeWord 0xA9BF7BFD#32 = .stpPre 0b10 false 0b1111110 30 31 29 ∧
  decodeWord 0xA8C17BFD#32 = .ldpPost 0b10 false 2 30 31 29 ∧
  decodeWord 0xF9400401#32 = .ldrUimm ⟨0b01, 0b11, false⟩ 1 0 1 ∧
  decodeWord 0xB81F8020#32 = .stur ⟨0b00, 0b10, false⟩ 0b111111000 1 0 ∧
  decodeWord 0x38604820#32 = .ldrbRegoff 0 0b010 false 1 0 ∧
  decodeWord 0xD503201F#32 = .delegateBes 0xD503201F#32 ∧
  decodeWord 0x00000000#32 = .undefReservedGroup 0x00000000#32
end

