-- ==== Sys2Proof/Laws/Fields.lean ====
section
/-! SUPPORT. The fields of an encoded instruction: each field accessor of the formats (spec/30_encoding.md R111–R116) on
each encoder gives the operand that was put there, or the format's fixed bits. -/

namespace Sys2Proof

/-! `encodePair` -/

@[simp] theorem fT_encodePair (opc : BitVec 2) (v : Bool) (op2 : BitVec 2) (l : Bool) (imm7 : BitVec 7) (rt2 rn rt : RegIx) :
    fT (encodePair opc v op2 l imm7 rt2 rn rt) = 0b01#2 ++ BitVec.ofBool v ++ 0b0#1 := by
  apply BitVec.eq_of_getLsbD_eq
  intro k hk
  interval_cases k <;>
    simp only [fT, field, encodePair, BitVec.getLsbD_extractLsb', BitVec.getLsbD_append] <;> simp

@[simp] theorem fOp0_encodePair (opc : BitVec 2) (v : Bool) (op2 : BitVec 2) (l : Bool) (imm7 : BitVec 7) (rt2 rn rt : RegIx) :
    fOp0 (encodePair opc v op2 l imm7 rt2 rn rt) = opc ++ 0b10#2 := by
  apply BitVec.eq_of_getLsbD_eq
  intro k hk
  interval_cases k <;>
    simp only [fOp0, field, encodePair, BitVec.getLsbD_extractLsb', BitVec.getLsbD_append] <;> simp

@[simp] theorem fOp0Low_encodePair (opc : BitVec 2) (v : Bool) (op2 : BitVec 2) (l : Bool) (imm7 : BitVec 7) (rt2 rn rt : RegIx) :
    fOp0Low (encodePair opc v op2 l imm7 rt2 rn rt) = 0b10#2 := by
  apply BitVec.eq_of_getLsbD_eq
  intro k hk
  interval_cases k <;>
    simp only [fOp0Low, field, encodePair, BitVec.getLsbD_extractLsb', BitVec.getLsbD_append] <;> simp

@[simp] theorem fOp2_encodePair (opc : BitVec 2) (v : Bool) (op2 : BitVec 2) (l : Bool) (imm7 : BitVec 7) (rt2 rn rt : RegIx) :
    fOp2 (encodePair opc v op2 l imm7 rt2 rn rt) = op2 := by
  apply BitVec.eq_of_getLsbD_eq
  intro k hk
  interval_cases k <;>
    simp only [fOp2, field, encodePair, BitVec.getLsbD_extractLsb', BitVec.getLsbD_append] <;> simp

@[simp] theorem fTop2_encodePair (opc : BitVec 2) (v : Bool) (op2 : BitVec 2) (l : Bool) (imm7 : BitVec 7) (rt2 rn rt : RegIx) :
    fTop2 (encodePair opc v op2 l imm7 rt2 rn rt) = opc := by
  apply BitVec.eq_of_getLsbD_eq
  intro k hk
  interval_cases k <;>
    simp only [fTop2, field, encodePair, BitVec.getLsbD_extractLsb', BitVec.getLsbD_append] <;> simp

@[simp] theorem fV_encodePair (opc : BitVec 2) (v : Bool) (op2 : BitVec 2) (l : Bool) (imm7 : BitVec 7) (rt2 rn rt : RegIx) :
    fV (encodePair opc v op2 l imm7 rt2 rn rt) = v := by
  simp only [fV, bitAt, encodePair, BitVec.getLsbD_append]
  simp

@[simp] theorem fL_encodePair (opc : BitVec 2) (v : Bool) (op2 : BitVec 2) (l : Bool) (imm7 : BitVec 7) (rt2 rn rt : RegIx) :
    fL (encodePair opc v op2 l imm7 rt2 rn rt) = l := by
  simp only [fL, bitAt, encodePair, BitVec.getLsbD_append]
  simp

@[simp] theorem fImm7_encodePair (opc : BitVec 2) (v : Bool) (op2 : BitVec 2) (l : Bool) (imm7 : BitVec 7) (rt2 rn rt : RegIx) :
    fImm7 (encodePair opc v op2 l imm7 rt2 rn rt) = imm7 := by
  apply BitVec.eq_of_getLsbD_eq
  intro k hk
  interval_cases k <;>
    simp only [fImm7, field, encodePair, BitVec.getLsbD_extractLsb', BitVec.getLsbD_append] <;> simp

@[simp] theorem fRt2_encodePair (opc : BitVec 2) (v : Bool) (op2 : BitVec 2) (l : Bool) (imm7 : BitVec 7) (rt2 rn rt : RegIx) :
    fRt2 (encodePair opc v op2 l imm7 rt2 rn rt) = rt2 := by
  apply BitVec.eq_of_getLsbD_eq
  intro k hk
  interval_cases k <;>
    simp only [fRt2, field, encodePair, BitVec.getLsbD_extractLsb', BitVec.getLsbD_append] <;> simp

@[simp] theorem fRn_encodePair (opc : BitVec 2) (v : Bool) (op2 : BitVec 2) (l : Bool) (imm7 : BitVec 7) (rt2 rn rt : RegIx) :
    fRn (encodePair opc v op2 l imm7 rt2 rn rt) = rn := by
  apply BitVec.eq_of_getLsbD_eq
  intro k hk
  interval_cases k <;>
    simp only [fRn, field, encodePair, BitVec.getLsbD_extractLsb', BitVec.getLsbD_append] <;> simp

@[simp] theorem fRt_encodePair (opc : BitVec 2) (v : Bool) (op2 : BitVec 2) (l : Bool) (imm7 : BitVec 7) (rt2 rn rt : RegIx) :
    fRt (encodePair opc v op2 l imm7 rt2 rn rt) = rt := by
  apply BitVec.eq_of_getLsbD_eq
  intro k hk
  interval_cases k <;>
    simp only [fRt, field, encodePair, BitVec.getLsbD_extractLsb', BitVec.getLsbD_append] <;> simp

@[simp] theorem isLoadStore_encodePair (opc : BitVec 2) (v : Bool) (op2 : BitVec 2) (l : Bool) (imm7 : BitVec 7) (rt2 rn rt : RegIx) : isLoadStore (encodePair opc v op2 l imm7 rt2 rn rt) = true := by
  simp only [isLoadStore, bitAt, encodePair, BitVec.getLsbD_append]
  simp

/-! `encodeUimm` -/

@[simp] theorem fT_encodeUimm (c : Cell) (imm12 : BitVec 12) (rn rt : RegIx) :
    fT (encodeUimm c imm12 rn rt) = 0b11#2 ++ BitVec.ofBool c.v ++ 0b0#1 := by
  apply BitVec.eq_of_getLsbD_eq
  intro k hk
  interval_cases k <;>
    simp only [fT, field, encodeUimm, BitVec.getLsbD_extractLsb', BitVec.getLsbD_append] <;> simp

@[simp] theorem fOp0_encodeUimm (c : Cell) (imm12 : BitVec 12) (rn rt : RegIx) :
    fOp0 (encodeUimm c imm12 rn rt) = c.size ++ 0b11#2 := by
  apply BitVec.eq_of_getLsbD_eq
  intro k hk
  interval_cases k <;>
    simp only [fOp0, field, encodeUimm, BitVec.getLsbD_extractLsb', BitVec.getLsbD_append] <;> simp

@[simp] theorem fOp0Low_encodeUimm (c : Cell) (imm12 : BitVec 12) (rn rt : RegIx) :
    fOp0Low (encodeUimm c imm12 rn rt) = 0b11#2 := by
  apply BitVec.eq_of_getLsbD_eq
  intro k hk
  interval_cases k <;>
    simp only [fOp0Low, field, encodeUimm, BitVec.getLsbD_extractLsb', BitVec.getLsbD_append] <;> simp

@[simp] theorem fOp2h_encodeUimm (c : Cell) (imm12 : BitVec 12) (rn rt : RegIx) :
    fOp2h (encodeUimm c imm12 rn rt) = true := by
  simp only [fOp2h, bitAt, encodeUimm, BitVec.getLsbD_append]
  simp

@[simp] theorem fTop2_encodeUimm (c : Cell) (imm12 : BitVec 12) (rn rt : RegIx) :
    fTop2 (encodeUimm c imm12 rn rt) = c.size := by
  apply BitVec.eq_of_getLsbD_eq
  intro k hk
  interval_cases k <;>
    simp only [fTop2, field, encodeUimm, BitVec.getLsbD_extractLsb', BitVec.getLsbD_append] <;> simp

@[simp] theorem fV_encodeUimm (c : Cell) (imm12 : BitVec 12) (rn rt : RegIx) :
    fV (encodeUimm c imm12 rn rt) = c.v := by
  simp only [fV, bitAt, encodeUimm, BitVec.getLsbD_append]
  simp

@[simp] theorem fOpc_encodeUimm (c : Cell) (imm12 : BitVec 12) (rn rt : RegIx) :
    fOpc (encodeUimm c imm12 rn rt) = c.opc := by
  apply BitVec.eq_of_getLsbD_eq
  intro k hk
  interval_cases k <;>
    simp only [fOpc, field, encodeUimm, BitVec.getLsbD_extractLsb', BitVec.getLsbD_append] <;> simp

@[simp] theorem fImm12_encodeUimm (c : Cell) (imm12 : BitVec 12) (rn rt : RegIx) :
    fImm12 (encodeUimm c imm12 rn rt) = imm12 := by
  apply BitVec.eq_of_getLsbD_eq
  intro k hk
  interval_cases k <;>
    simp only [fImm12, field, encodeUimm, BitVec.getLsbD_extractLsb', BitVec.getLsbD_append] <;> simp

@[simp] theorem fRn_encodeUimm (c : Cell) (imm12 : BitVec 12) (rn rt : RegIx) :
    fRn (encodeUimm c imm12 rn rt) = rn := by
  apply BitVec.eq_of_getLsbD_eq
  intro k hk
  interval_cases k <;>
    simp only [fRn, field, encodeUimm, BitVec.getLsbD_extractLsb', BitVec.getLsbD_append] <;> simp

@[simp] theorem fRt_encodeUimm (c : Cell) (imm12 : BitVec 12) (rn rt : RegIx) :
    fRt (encodeUimm c imm12 rn rt) = rt := by
  apply BitVec.eq_of_getLsbD_eq
  intro k hk
  interval_cases k <;>
    simp only [fRt, field, encodeUimm, BitVec.getLsbD_extractLsb', BitVec.getLsbD_append] <;> simp

@[simp] theorem fCell_encodeUimm (c : Cell) (imm12 : BitVec 12) (rn rt : RegIx) : fCell (encodeUimm c imm12 rn rt) = c := by
  simp [fCell]

@[simp] theorem isLoadStore_encodeUimm (c : Cell) (imm12 : BitVec 12) (rn rt : RegIx) : isLoadStore (encodeUimm c imm12 rn rt) = true := by
  simp only [isLoadStore, bitAt, encodeUimm, BitVec.getLsbD_append]
  simp

/-! `encodeRegoff` -/

@[simp] theorem fT_encodeRegoff (c : Cell) (rm : RegIx) (option : BitVec 3) (s : Bool) (rn rt : RegIx) :
    fT (encodeRegoff c rm option s rn rt) = 0b11#2 ++ BitVec.ofBool c.v ++ 0b0#1 := by
  apply BitVec.eq_of_getLsbD_eq
  intro k hk
  interval_cases k <;>
    simp only [fT, field, encodeRegoff, BitVec.getLsbD_extractLsb', BitVec.getLsbD_append] <;> simp

@[simp] theorem fOp0_encodeRegoff (c : Cell) (rm : RegIx) (option : BitVec 3) (s : Bool) (rn rt : RegIx) :
    fOp0 (encodeRegoff c rm option s rn rt) = c.size ++ 0b11#2 := by
  apply BitVec.eq_of_getLsbD_eq
  intro k hk
  interval_cases k <;>
    simp only [fOp0, field, encodeRegoff, BitVec.getLsbD_extractLsb', BitVec.getLsbD_append] <;> simp

@[simp] theorem fOp0Low_encodeRegoff (c : Cell) (rm : RegIx) (option : BitVec 3) (s : Bool) (rn rt : RegIx) :
    fOp0Low (encodeRegoff c rm option s rn rt) = 0b11#2 := by
  apply BitVec.eq_of_getLsbD_eq
  intro k hk
  interval_cases k <;>
    simp only [fOp0Low, field, encodeRegoff, BitVec.getLsbD_extractLsb', BitVec.getLsbD_append] <;> simp

@[simp] theorem fOp2h_encodeRegoff (c : Cell) (rm : RegIx) (option : BitVec 3) (s : Bool) (rn rt : RegIx) :
    fOp2h (encodeRegoff c rm option s rn rt) = false := by
  simp only [fOp2h, bitAt, encodeRegoff, BitVec.getLsbD_append]
  simp

@[simp] theorem fB21_encodeRegoff (c : Cell) (rm : RegIx) (option : BitVec 3) (s : Bool) (rn rt : RegIx) :
    fB21 (encodeRegoff c rm option s rn rt) = true := by
  simp only [fB21, bitAt, encodeRegoff, BitVec.getLsbD_append]
  simp

@[simp] theorem fOp4_encodeRegoff (c : Cell) (rm : RegIx) (option : BitVec 3) (s : Bool) (rn rt : RegIx) :
    fOp4 (encodeRegoff c rm option s rn rt) = 0b10#2 := by
  apply BitVec.eq_of_getLsbD_eq
  intro k hk
  interval_cases k <;>
    simp only [fOp4, field, encodeRegoff, BitVec.getLsbD_extractLsb', BitVec.getLsbD_append] <;> simp

@[simp] theorem fTop2_encodeRegoff (c : Cell) (rm : RegIx) (option : BitVec 3) (s : Bool) (rn rt : RegIx) :
    fTop2 (encodeRegoff c rm option s rn rt) = c.size := by
  apply BitVec.eq_of_getLsbD_eq
  intro k hk
  interval_cases k <;>
    simp only [fTop2, field, encodeRegoff, BitVec.getLsbD_extractLsb', BitVec.getLsbD_append] <;> simp

@[simp] theorem fV_encodeRegoff (c : Cell) (rm : RegIx) (option : BitVec 3) (s : Bool) (rn rt : RegIx) :
    fV (encodeRegoff c rm option s rn rt) = c.v := by
  simp only [fV, bitAt, encodeRegoff, BitVec.getLsbD_append]
  simp

@[simp] theorem fOpc_encodeRegoff (c : Cell) (rm : RegIx) (option : BitVec 3) (s : Bool) (rn rt : RegIx) :
    fOpc (encodeRegoff c rm option s rn rt) = c.opc := by
  apply BitVec.eq_of_getLsbD_eq
  intro k hk
  interval_cases k <;>
    simp only [fOpc, field, encodeRegoff, BitVec.getLsbD_extractLsb', BitVec.getLsbD_append] <;> simp

@[simp] theorem fRm_encodeRegoff (c : Cell) (rm : RegIx) (option : BitVec 3) (s : Bool) (rn rt : RegIx) :
    fRm (encodeRegoff c rm option s rn rt) = rm := by
  apply BitVec.eq_of_getLsbD_eq
  intro k hk
  interval_cases k <;>
    simp only [fRm, field, encodeRegoff, BitVec.getLsbD_extractLsb', BitVec.getLsbD_append] <;> simp

@[simp] theorem fOption_encodeRegoff (c : Cell) (rm : RegIx) (option : BitVec 3) (s : Bool) (rn rt : RegIx) :
    fOption (encodeRegoff c rm option s rn rt) = option := by
  apply BitVec.eq_of_getLsbD_eq
  intro k hk
  interval_cases k <;>
    simp only [fOption, field, encodeRegoff, BitVec.getLsbD_extractLsb', BitVec.getLsbD_append] <;> simp

@[simp] theorem fS_encodeRegoff (c : Cell) (rm : RegIx) (option : BitVec 3) (s : Bool) (rn rt : RegIx) :
    fS (encodeRegoff c rm option s rn rt) = s := by
  simp only [fS, bitAt, encodeRegoff, BitVec.getLsbD_append]
  simp

@[simp] theorem fRn_encodeRegoff (c : Cell) (rm : RegIx) (option : BitVec 3) (s : Bool) (rn rt : RegIx) :
    fRn (encodeRegoff c rm option s rn rt) = rn := by
  apply BitVec.eq_of_getLsbD_eq
  intro k hk
  interval_cases k <;>
    simp only [fRn, field, encodeRegoff, BitVec.getLsbD_extractLsb', BitVec.getLsbD_append] <;> simp

@[simp] theorem fRt_encodeRegoff (c : Cell) (rm : RegIx) (option : BitVec 3) (s : Bool) (rn rt : RegIx) :
    fRt (encodeRegoff c rm option s rn rt) = rt := by
  apply BitVec.eq_of_getLsbD_eq
  intro k hk
  interval_cases k <;>
    simp only [fRt, field, encodeRegoff, BitVec.getLsbD_extractLsb', BitVec.getLsbD_append] <;> simp

@[simp] theorem fCell_encodeRegoff (c : Cell) (rm : RegIx) (option : BitVec 3) (s : Bool) (rn rt : RegIx) : fCell (encodeRegoff c rm option s rn rt) = c := by
  simp [fCell]

@[simp] theorem isLoadStore_encodeRegoff (c : Cell) (rm : RegIx) (option : BitVec 3) (s : Bool) (rn rt : RegIx) : isLoadStore (encodeRegoff c rm option s rn rt) = true := by
  simp only [isLoadStore, bitAt, encodeRegoff, BitVec.getLsbD_append]
  simp

/-! `encodeImm9` -/

@[simp] theorem fT_encodeImm9 (c : Cell) (imm9 : BitVec 9) (op4 : BitVec 2) (rn rt : RegIx) :
    fT (encodeImm9 c imm9 op4 rn rt) = 0b11#2 ++ BitVec.ofBool c.v ++ 0b0#1 := by
  apply BitVec.eq_of_getLsbD_eq
  intro k hk
  interval_cases k <;>
    simp only [fT, field, encodeImm9, BitVec.getLsbD_extractLsb', BitVec.getLsbD_append] <;> simp

@[simp] theorem fOp0_encodeImm9 (c : Cell) (imm9 : BitVec 9) (op4 : BitVec 2) (rn rt : RegIx) :
    fOp0 (encodeImm9 c imm9 op4 rn rt) = c.size ++ 0b11#2 := by
  apply BitVec.eq_of_getLsbD_eq
  intro k hk
  interval_cases k <;>
    simp only [fOp0, field, encodeImm9, BitVec.getLsbD_extractLsb', BitVec.getLsbD_append] <;> simp

@[simp] theorem fOp0Low_encodeImm9 (c : Cell) (imm9 : BitVec 9) (op4 : BitVec 2) (rn rt : RegIx) :
    fOp0Low (encodeImm9 c imm9 op4 rn rt) = 0b11#2 := by
  apply BitVec.eq_of_getLsbD_eq
  intro k hk
  interval_cases k <;>
    simp only [fOp0Low, field, encodeImm9, BitVec.getLsbD_extractLsb', BitVec.getLsbD_append] <;> simp

@[simp] theorem fOp2h_encodeImm9 (c : Cell) (imm9 : BitVec 9) (op4 : BitVec 2) (rn rt : RegIx) :
    fOp2h (encodeImm9 c imm9 op4 rn rt) = false := by
  simp only [fOp2h, bitAt, encodeImm9, BitVec.getLsbD_append]
  simp

@[simp] theorem fB21_encodeImm9 (c : Cell) (imm9 : BitVec 9) (op4 : BitVec 2) (rn rt : RegIx) :
    fB21 (encodeImm9 c imm9 op4 rn rt) = false := by
  simp only [fB21, bitAt, encodeImm9, BitVec.getLsbD_append]
  simp

@[simp] theorem fOp4_encodeImm9 (c : Cell) (imm9 : BitVec 9) (op4 : BitVec 2) (rn rt : RegIx) :
    fOp4 (encodeImm9 c imm9 op4 rn rt) = op4 := by
  apply BitVec.eq_of_getLsbD_eq
  intro k hk
  interval_cases k <;>
    simp only [fOp4, field, encodeImm9, BitVec.getLsbD_extractLsb', BitVec.getLsbD_append] <;> simp

@[simp] theorem fTop2_encodeImm9 (c : Cell) (imm9 : BitVec 9) (op4 : BitVec 2) (rn rt : RegIx) :
    fTop2 (encodeImm9 c imm9 op4 rn rt) = c.size := by
  apply BitVec.eq_of_getLsbD_eq
  intro k hk
  interval_cases k <;>
    simp only [fTop2, field, encodeImm9, BitVec.getLsbD_extractLsb', BitVec.getLsbD_append] <;> simp

@[simp] theorem fV_encodeImm9 (c : Cell) (imm9 : BitVec 9) (op4 : BitVec 2) (rn rt : RegIx) :
    fV (encodeImm9 c imm9 op4 rn rt) = c.v := by
  simp only [fV, bitAt, encodeImm9, BitVec.getLsbD_append]
  simp

@[simp] theorem fOpc_encodeImm9 (c : Cell) (imm9 : BitVec 9) (op4 : BitVec 2) (rn rt : RegIx) :
    fOpc (encodeImm9 c imm9 op4 rn rt) = c.opc := by
  apply BitVec.eq_of_getLsbD_eq
  intro k hk
  interval_cases k <;>
    simp only [fOpc, field, encodeImm9, BitVec.getLsbD_extractLsb', BitVec.getLsbD_append] <;> simp

@[simp] theorem fImm9_encodeImm9 (c : Cell) (imm9 : BitVec 9) (op4 : BitVec 2) (rn rt : RegIx) :
    fImm9 (encodeImm9 c imm9 op4 rn rt) = imm9 := by
  apply BitVec.eq_of_getLsbD_eq
  intro k hk
  interval_cases k <;>
    simp only [fImm9, field, encodeImm9, BitVec.getLsbD_extractLsb', BitVec.getLsbD_append] <;> simp

@[simp] theorem fRn_encodeImm9 (c : Cell) (imm9 : BitVec 9) (op4 : BitVec 2) (rn rt : RegIx) :
    fRn (encodeImm9 c imm9 op4 rn rt) = rn := by
  apply BitVec.eq_of_getLsbD_eq
  intro k hk
  interval_cases k <;>
    simp only [fRn, field, encodeImm9, BitVec.getLsbD_extractLsb', BitVec.getLsbD_append] <;> simp

@[simp] theorem fRt_encodeImm9 (c : Cell) (imm9 : BitVec 9) (op4 : BitVec 2) (rn rt : RegIx) :
    fRt (encodeImm9 c imm9 op4 rn rt) = rt := by
  apply BitVec.eq_of_getLsbD_eq
  intro k hk
  interval_cases k <;>
    simp only [fRt, field, encodeImm9, BitVec.getLsbD_extractLsb', BitVec.getLsbD_append] <;> simp

@[simp] theorem fCell_encodeImm9 (c : Cell) (imm9 : BitVec 9) (op4 : BitVec 2) (rn rt : RegIx) : fCell (encodeImm9 c imm9 op4 rn rt) = c := by
  simp [fCell]

@[simp] theorem isLoadStore_encodeImm9 (c : Cell) (imm9 : BitVec 9) (op4 : BitVec 2) (rn rt : RegIx) : isLoadStore (encodeImm9 c imm9 op4 rn rt) = true := by
  simp only [isLoadStore, bitAt, encodeImm9, BitVec.getLsbD_append]
  simp

end Sys2Proof
end

