-- ==== Sys2Proof/Laws/Memory.lean ====
section
/-! SUPPORT. The laws of the buffer: what a write leaves readable, and that every operation that makes or changes a
buffer keeps its canonical form. -/

namespace Sys2Proof.Machine

open Sys2Proof

/-! ### Cells -/

theorem cellAt_below {lo len a : Nat} {cs : List Host.Cell} (h : cellsWf lo len cs = true) (ha : a < lo) :
    cellAt cs a = 0#8 := by
  induction cs generalizing lo with
  | nil => rfl
  | cons p cs ih =>
    obtain ⟨k, c⟩ := p
    simp only [cellsWf, Bool.and_eq_true, decide_eq_true_eq] at h
    simp only [cellAt]
    rw [if_neg (by omega)]
    exact ih h.2 (by omega)

theorem cellsWf_weaken {lo lo' len len' : Nat} {cs : List Host.Cell} (h : cellsWf lo len cs = true) (hlo : lo' ≤ lo)
    (hlen : len ≤ len') : cellsWf lo' len' cs = true := by
  induction cs generalizing lo lo' with
  | nil => rfl
  | cons p cs ih =>
    obtain ⟨k, c⟩ := p
    simp only [cellsWf, Bool.and_eq_true, decide_eq_true_eq] at h ⊢
    exact ⟨⟨⟨by omega, by omega⟩, h.1.2⟩, ih h.2 (by omega)⟩

theorem cellAt_setCell_same {lo len : Nat} {cs : List Host.Cell} (h : cellsWf lo len cs = true) (a : Nat) (b : Byte) :
    cellAt (setCell a b cs) a = b := by
  induction cs generalizing lo with
  | nil => by_cases hb : b = 0#8 <;> simp [setCell, cellAt, hb]
  | cons p cs ih =>
    obtain ⟨k, c⟩ := p
    simp only [cellsWf, Bool.and_eq_true, decide_eq_true_eq] at h
    have hcs := h.2
    simp only [setCell]
    by_cases hlt : a < k
    · by_cases hb : b = 0#8
      · simp [hlt, hb, cellAt, show k ≠ a by omega, cellAt_below hcs (show a < k + 1 by omega)]
      · simp [hlt, hb, cellAt]
    · by_cases heq : a = k
      · subst heq
        by_cases hb : b = 0#8
        · simp [hb, cellAt_below hcs (show a < a + 1 by omega)]
        · simp [hb, cellAt]
      · simp [hlt, heq, cellAt, show k ≠ a by omega, ih hcs]

theorem cellAt_setCell_other {a a' : Nat} (hne : a' ≠ a) (b : Byte) (cs : List Host.Cell) :
    cellAt (setCell a b cs) a' = cellAt cs a' := by
  induction cs with
  | nil => by_cases hb : b = 0#8 <;> simp [setCell, cellAt, hb, Ne.symm hne]
  | cons p cs ih =>
    obtain ⟨k, c⟩ := p
    simp only [setCell]
    by_cases hlt : a < k
    · by_cases hb : b = 0#8 <;> simp [hlt, hb, cellAt, Ne.symm hne]
    · by_cases heq : a = k
      · subst heq
        by_cases hb : b = 0#8 <;> simp [hb, cellAt, Ne.symm hne]
      · simp [hlt, heq, cellAt, ih]

theorem setCell_wf {lo len a : Nat} {cs : List Host.Cell} (h : cellsWf lo len cs = true) (hlo : lo ≤ a) (hlen : a < len)
    (b : Byte) : cellsWf lo len (setCell a b cs) = true := by
  induction cs generalizing lo with
  | nil => by_cases hb : b = 0#8 <;> simp [setCell, cellsWf, hb, hlo, hlen]
  | cons p cs ih =>
    obtain ⟨k, c⟩ := p
    have hw := h
    simp only [cellsWf, Bool.and_eq_true, decide_eq_true_eq] at h
    simp only [setCell]
    by_cases hlt : a < k
    · by_cases hb : b = 0#8
      · simpa [hlt, hb] using hw
      · simp [hlt, hb, cellsWf, hlo, hlen, h.1.1.2, h.1.2, h.2, show a + 1 ≤ k by omega]
    · by_cases heq : a = k
      · subst heq
        by_cases hb : b = 0#8
        · simpa [hb] using cellsWf_weaken h.2 (show lo ≤ a + 1 by omega) (Nat.le_refl len)
        · simp [hb, cellsWf, hlo, hlen, h.2]
      · simp [hlt, heq, cellsWf, h.1.1.1, h.1.1.2, h.1.2, ih h.2 (by omega)]

theorem cellsFrom_wf (k len : Nat) (bs : List Byte) (h : k + bs.length ≤ len) :
    cellsWf k len (cellsFrom k bs) = true := by
  induction bs generalizing k with
  | nil => rfl
  | cons b bs ih =>
    simp only [List.length_cons] at h
    have := ih (k + 1) (by omega)
    simp only [cellsFrom]
    split
    · exact cellsWf_weaken this (by omega) (Nat.le_refl len)
    · next hb => simp [cellsWf, hb, this, show k < len by omega]

theorem cellAt_cellsFrom (k a : Nat) (bs : List Byte) : cellAt (cellsFrom k bs) (k + a) = bs[a]?.getD 0#8 := by
  induction bs generalizing k a with
  | nil => simp [cellsFrom, cellAt]
  | cons b bs ih =>
    simp only [cellsFrom]
    cases a with
    | zero =>
      have h := cellsFrom_wf (k + 1) (k + 1 + bs.length) bs (Nat.le_refl _)
      by_cases hb : b = 0#8
      · simp [hb, cellAt_below h (show k < k + 1 by omega)]
      · simp [hb, cellAt]
    | succ a =>
      have := ih (k + 1) a
      rw [show k + 1 + a = k + (a + 1) by omega] at this
      by_cases hb : b = 0#8
      · simp [hb, this]
      · simp [hb, cellAt, this]

/-! ### The buffer a caller hands over -/

@[simp] theorem Memory.ofBytes_len (bs : List Byte) : (Memory.ofBytes bs).len = bs.length := rfl

theorem Memory.ofBytes_wf (bs : List Byte) : (Memory.ofBytes bs).wf = true :=
  cellsFrom_wf 0 bs.length bs (by omega)

/-- `MemRead` of a caller's buffer is the buffer's own byte, and nothing outside it (R80). -/
@[simp] theorem Memory.read_ofBytes (bs : List Byte) (a : Nat) : (Memory.ofBytes bs).read a = bs[a]? := by
  have h := cellAt_cellsFrom 0 a bs
  rw [Nat.zero_add] at h
  by_cases ha : a < bs.length
  · simp [Memory.read, Memory.ofBytes, ha, h]
  · simp [Memory.read, Memory.ofBytes, ha]

theorem Memory.bytes_ofBytes (bs : List Byte) : (Memory.ofBytes bs).bytes = bs := by
  apply List.ext_getElem
  · simp [Memory.bytes]
  · intro a h1 h2
    have h := cellAt_cellsFrom 0 a bs
    rw [Nat.zero_add] at h
    simp [Memory.bytes, Memory.ofBytes, h, h2]

/-! ### Writes from outside -/

@[simp] theorem Memory.write_len (m : Memory) (a : Nat) (b : Byte) : (m.write a b).len = m.len := by
  unfold Memory.write
  split <;> rfl

theorem Memory.write_wf {m : Memory} (h : m.wf = true) (a : Nat) (b : Byte) : (m.write a b).wf = true := by
  unfold Memory.write
  split
  · next ha => exact setCell_wf h (Nat.zero_le a) ha b
  · exact h

theorem Memory.read_write_same {m : Memory} (h : m.wf = true) {a : Nat} (ha : a < m.len) (b : Byte) :
    (m.write a b).read a = some b := by
  simp [Memory.read, Memory.write, ha, cellAt_setCell_same h]

theorem Memory.read_write_other (m : Memory) {a a' : Nat} (hne : a' ≠ a) (b : Byte) :
    (m.write a b).read a' = m.read a' := by
  unfold Memory.write
  split
  · simp [Memory.read, cellAt_setCell_other hne]
  · rfl

@[simp] theorem Memory.writeWord_len (m : Memory) (a : Nat) (w : Word) : (m.writeWord a w).len = m.len := by
  simp [Memory.writeWord]

theorem Memory.writeWord_wf {m : Memory} (h : m.wf = true) (a : Nat) (w : Word) : (m.writeWord a w).wf = true :=
  Memory.write_wf (Memory.write_wf (Memory.write_wf (Memory.write_wf h _ _) _ _) _ _) _ _

theorem Memory.grow_wf {m : Memory} (h : m.wf = true) (n : Nat) : (m.grow n).wf = true :=
  cellsWf_weaken h (Nat.le_refl 0) (Nat.le_max_left m.len n)

/-- A word laid out in four bytes and read back is the word (R81). -/
theorem wordOfBytes_byteOfWord (w : Word) :
    wordOfBytes (byteOfWord w 0) (byteOfWord w 1) (byteOfWord w 2) (byteOfWord w 3) = w := by
  apply BitVec.eq_of_getLsbD_eq
  intro k hk
  have : k < 8 ∨ (8 ≤ k ∧ k < 16) ∨ (16 ≤ k ∧ k < 24) ∨ (24 ≤ k ∧ k < 32) := by omega
  rcases this with h | ⟨h, h'⟩ | ⟨h, h'⟩ | ⟨h, h'⟩ <;>
    simp [wordOfBytes, byteOfWord, BitVec.getLsbD_extractLsb', *]
  all_goals try grind

/-- A word placed in the buffer is the word read there (R81). -/
theorem Memory.readWord_writeWord {m : Memory} (h : m.wf = true) {a : Nat} (ha : a + 4 ≤ m.len) (w : Word) :
    (m.writeWord a w).readWord a = some w := by
  have h1 := Memory.write_wf h a (byteOfWord w 0)
  have h2 := Memory.write_wf h1 (a + 1) (byteOfWord w 1)
  have h3 := Memory.write_wf h2 (a + 2) (byteOfWord w 2)
  have e0 : (m.writeWord a w).read a = some (byteOfWord w 0) := by
    rw [Memory.writeWord, Memory.read_write_other _ (by omega), Memory.read_write_other _ (by omega),
      Memory.read_write_other _ (by omega), Memory.read_write_same h (by omega)]
  have e1 : (m.writeWord a w).read (a + 1) = some (byteOfWord w 1) := by
    rw [Memory.writeWord, Memory.read_write_other _ (by omega), Memory.read_write_other _ (by omega),
      Memory.read_write_same h1 (by rw [Memory.write_len]; omega)]
  have e2 : (m.writeWord a w).read (a + 2) = some (byteOfWord w 2) := by
    rw [Memory.writeWord, Memory.read_write_other _ (by omega),
      Memory.read_write_same h2 (by rw [Memory.write_len, Memory.write_len]; omega)]
  have e3 : (m.writeWord a w).read (a + 3) = some (byteOfWord w 3) := by
    rw [Memory.writeWord, Memory.read_write_same h3 (by rw [Memory.write_len, Memory.write_len, Memory.write_len]; omega)]
  simp [Memory.readWord, e0, e1, e2, e3, wordOfBytes_byteOfWord]

/-- A write from outside keeps the buffer's canonical form (R96). -/
theorem State.hostWrite_memWf {s : State} (h : s.mem.wf = true) (a : Nat) (b : Byte) : (s.hostWrite a b).mem.wf = true := by
  unfold State.hostWrite
  split
  · exact Memory.write_wf h a b
  · exact h

/-- `withFetchWord` keeps the buffer's canonical form. -/
theorem State.withFetchWord_memWf {s : State} (h : s.mem.wf = true) (nbits w : Nat) :
    (s.withFetchWord nbits w).mem.wf = true :=
  Memory.writeWord_wf (Memory.grow_wf h _) _ _

/-- The buffer at reset is in canonical form. -/
theorem State.reset_memWf : State.reset.mem.wf = true := rfl

end Sys2Proof.Machine
end

