-- ==== Sys2Proof/Laws/State.lean ====
section
/-! SUPPORT. One lemma per field per state change, each true by `rfl`, so that no later proof unfolds a record update. -/

namespace Sys2Proof.Machine

open Sys2Proof

/-! `State.append` -/

@[simp] theorem State.append_shape (s : State) (r : Record) :
    (s.append r).shape = s.shape := rfl

@[simp] theorem State.append_mem (s : State) (r : Record) :
    (s.append r).mem = s.mem := rfl

@[simp] theorem State.append_va (s : State) (r : Record) :
    (s.append r).va = s.va := rfl

@[simp] theorem State.append_flags (s : State) (r : Record) :
    (s.append r).flags = s.flags := rfl

@[simp] theorem State.append_i (s : State) (r : Record) :
    (s.append r).i = s.i + 4 := rfl

@[simp] theorem State.append_out (s : State) (r : Record) :
    (s.append r).out = s.out ++ [r] := rfl

@[simp] theorem State.append_status (s : State) (r : Record) :
    (s.append r).status = s.status := rfl

@[simp] theorem State.append_reply (s : State) (r : Record) :
    (s.append r).reply = (match s.shape with
      | .lazy => some (.item r)
      | .eager => s.reply) := rfl

@[simp] theorem State.append_bufWritten (s : State) (r : Record) :
    (s.append r).bufWritten = s.bufWritten := rfl

/-! `State.surface` -/

@[simp] theorem State.surface_shape (s : State) (e : CallError) :
    (s.surface e).shape = s.shape := rfl

@[simp] theorem State.surface_mem (s : State) (e : CallError) :
    (s.surface e).mem = s.mem := rfl

@[simp] theorem State.surface_va (s : State) (e : CallError) :
    (s.surface e).va = s.va := rfl

@[simp] theorem State.surface_flags (s : State) (e : CallError) :
    (s.surface e).flags = s.flags := rfl

@[simp] theorem State.surface_i (s : State) (e : CallError) :
    (s.surface e).i = s.i := rfl

@[simp] theorem State.surface_out (s : State) (e : CallError) :
    (s.surface e).out = (match s.shape with
      | .eager => []
      | .lazy => s.out) := rfl

@[simp] theorem State.surface_status (s : State) (e : CallError) :
    (s.surface e).status = .failed e := rfl

@[simp] theorem State.surface_reply (s : State) (e : CallError) :
    (s.surface e).reply = some (.error e) := rfl

@[simp] theorem State.surface_bufWritten (s : State) (e : CallError) :
    (s.surface e).bufWritten = s.bufWritten := rfl

/-! `State.finish` -/

@[simp] theorem State.finish_shape (s : State) :
    s.finish.shape = s.shape := rfl

@[simp] theorem State.finish_mem (s : State) :
    s.finish.mem = s.mem := rfl

@[simp] theorem State.finish_va (s : State) :
    s.finish.va = s.va := rfl

@[simp] theorem State.finish_flags (s : State) :
    s.finish.flags = s.flags := rfl

@[simp] theorem State.finish_i (s : State) :
    s.finish.i = s.i := rfl

@[simp] theorem State.finish_out (s : State) :
    s.finish.out = s.out := rfl

@[simp] theorem State.finish_status (s : State) :
    s.finish.status = .done := rfl

@[simp] theorem State.finish_reply (s : State) :
    s.finish.reply = (match s.shape with
      | .eager => some (.returned s.out s.va)
      | .lazy => some .streamEnd) := rfl

@[simp] theorem State.finish_bufWritten (s : State) :
    s.finish.bufWritten = s.bufWritten := rfl

/-! `State.afterEnd` -/

@[simp] theorem State.afterEnd_shape (s : State) :
    s.afterEnd.shape = s.shape := rfl

@[simp] theorem State.afterEnd_mem (s : State) :
    s.afterEnd.mem = s.mem := rfl

@[simp] theorem State.afterEnd_va (s : State) :
    s.afterEnd.va = s.va := rfl

@[simp] theorem State.afterEnd_flags (s : State) :
    s.afterEnd.flags = s.flags := rfl

@[simp] theorem State.afterEnd_i (s : State) :
    s.afterEnd.i = s.i := rfl

@[simp] theorem State.afterEnd_out (s : State) :
    s.afterEnd.out = s.out := rfl

@[simp] theorem State.afterEnd_status (s : State) :
    s.afterEnd.status = s.status := rfl

@[simp] theorem State.afterEnd_reply (s : State) :
    s.afterEnd.reply = (match s.shape with
      | .eager => s.reply
      | .lazy => some .streamEnd) := rfl

@[simp] theorem State.afterEnd_bufWritten (s : State) :
    s.afterEnd.bufWritten = s.bufWritten := rfl

/-! `State.surfaced` -/

@[simp] theorem State.surfaced_shape (s : State) (e : CallError) :
    (s.surfaced e).shape = s.shape := rfl

@[simp] theorem State.surfaced_mem (s : State) (e : CallError) :
    (s.surfaced e).mem = s.mem := rfl

@[simp] theorem State.surfaced_va (s : State) (e : CallError) :
    (s.surfaced e).va = s.va := rfl

@[simp] theorem State.surfaced_flags (s : State) (e : CallError) :
    (s.surfaced e).flags = s.flags := rfl

@[simp] theorem State.surfaced_i (s : State) (e : CallError) :
    (s.surfaced e).i = s.i := rfl

@[simp] theorem State.surfaced_out (s : State) (e : CallError) :
    (s.surfaced e).out = (if s.shape = .eager then [] else s.out) := rfl

@[simp] theorem State.surfaced_status (s : State) (e : CallError) :
    (s.surfaced e).status = .failed e := rfl

@[simp] theorem State.surfaced_reply (s : State) (e : CallError) :
    (s.surfaced e).reply = some (.error e) := rfl

@[simp] theorem State.surfaced_bufWritten (s : State) (e : CallError) :
    (s.surfaced e).bufWritten = s.bufWritten := rfl

/-! `State.delivered`: the fields a delivered record leaves alone, and the advance -/

@[simp] theorem State.delivered_shape (s : State) (r : Record) :
    (s.delivered r).shape = s.shape := rfl

@[simp] theorem State.delivered_mem (s : State) (r : Record) :
    (s.delivered r).mem = s.mem := rfl

@[simp] theorem State.delivered_va (s : State) (r : Record) :
    (s.delivered r).va = s.va := rfl

@[simp] theorem State.delivered_flags (s : State) (r : Record) :
    (s.delivered r).flags = s.flags := rfl

@[simp] theorem State.delivered_i (s : State) (r : Record) :
    (s.delivered r).i = s.i + 4 := rfl

@[simp] theorem State.delivered_status (s : State) (r : Record) :
    (s.delivered r).status = s.status := rfl

@[simp] theorem State.delivered_bufWritten (s : State) (r : Record) :
    (s.delivered r).bufWritten = s.bufWritten := rfl

/-! `State.start` -/

@[simp] theorem State.start_shape (shape : Shape) (bs : List Byte) (va : Addr) (flags : Flags) :
    (State.start shape bs va flags).shape = shape := rfl

@[simp] theorem State.start_mem (shape : Shape) (bs : List Byte) (va : Addr) (flags : Flags) :
    (State.start shape bs va flags).mem = Memory.ofBytes bs := rfl

@[simp] theorem State.start_va (shape : Shape) (bs : List Byte) (va : Addr) (flags : Flags) :
    (State.start shape bs va flags).va = va := rfl

@[simp] theorem State.start_flags (shape : Shape) (bs : List Byte) (va : Addr) (flags : Flags) :
    (State.start shape bs va flags).flags = flags := rfl

@[simp] theorem State.start_i (shape : Shape) (bs : List Byte) (va : Addr) (flags : Flags) :
    (State.start shape bs va flags).i = 0 := rfl

@[simp] theorem State.start_out (shape : Shape) (bs : List Byte) (va : Addr) (flags : Flags) :
    (State.start shape bs va flags).out = [] := rfl

@[simp] theorem State.start_status (shape : Shape) (bs : List Byte) (va : Addr) (flags : Flags) :
    (State.start shape bs va flags).status = .running := rfl

@[simp] theorem State.start_reply (shape : Shape) (bs : List Byte) (va : Addr) (flags : Flags) :
    (State.start shape bs va flags).reply = none := rfl

@[simp] theorem State.start_bufWritten (shape : Shape) (bs : List Byte) (va : Addr) (flags : Flags) :
    (State.start shape bs va flags).bufWritten = false := rfl

end Sys2Proof.Machine
end

