-- ==== Sys2Proof/Laws/Ops.lean ====
section
/-! SUPPORT. For each shared operation, once, everything it can do: the record a decode result becomes, one sequencer
word, what `exec` is, and the cases of a step. Later proofs cite these and unfold nothing. -/

namespace Sys2Proof.Machine

open Sys2Proof

/-! ### The records the machine's operations hand on -/

@[simp] theorem Record.withPreIndexLaw_law (r : Record) :
    r.withPreIndexLaw.memIsPreIndexed = decide (r.withPreIndexLaw.memMode = .preIndex) := rfl

@[simp] theorem Record.withPreIndexLaw_mnemonic (r : Record) : r.withPreIndexLaw.mnemonic = r.mnemonic := rfl

@[simp] theorem Record.withPreIndexLaw_category (r : Record) : r.withPreIndexLaw.category = r.category := rfl

/-- The remapper leaves `address` unchanged (R409). -/
@[simp] theorem aliasRemap_address (r : Record) : (aliasRemap r).address = r.address := rfl

/-- A remapped record is under R43's law. -/
@[simp] theorem aliasRemap_law (r : Record) :
    (aliasRemap r).memIsPreIndexed = decide ((aliasRemap r).memMode = .preIndex) := rfl

/-- The record that is delivered for `r` at offset `i`: stamped (R84) and, where the flag says so, remapped (R409). -/
def deliveredRecord (f : Flags) (va : Addr) (i : Nat) (r : Record) : Record :=
  if f.remapAliases then aliasRemap { r with address := va + BitVec.ofNat 64 i }
  else { r with address := va + BitVec.ofNat 64 i }

@[simp] theorem deliveredRecord_address (f : Flags) (va : Addr) (i : Nat) (r : Record) :
    (deliveredRecord f va i r).address = va + BitVec.ofNat 64 i := by
  unfold deliveredRecord
  split <;> rfl

theorem deliveredRecord_law (f : Flags) (va : Addr) (i : Nat) {r : Record}
    (h : r.memIsPreIndexed = decide (r.memMode = .preIndex)) :
    (deliveredRecord f va i r).memIsPreIndexed = decide ((deliveredRecord f va i r).memMode = .preIndex) := by
  unfold deliveredRecord
  split
  · rfl
  · exact h

theorem State.delivered_eq_append (s : State) (r : Record) :
    s.delivered r = s.append (deliveredRecord s.flags s.va s.i r) := by
  cases s with | mk shape => cases shape <;> rfl

theorem State.surfaced_eq_surface (s : State) (e : CallError) : s.surfaced e = s.surface e := by
  cases s with | mk shape => cases shape <;> rfl

/-! ### One sequencer word -/

theorem finishRecord_eq (f : Flags) (va : Addr) (i : Nat) (w : Word) (r : Record) :
    finishRecord f va i w r =
      if f.throwOnUnimplemented = true ∧ r.mnemonic = .unimplemented then .error (.unimplemented w i r.category)
      else .ok (deliveredRecord f va i r) := rfl

/-- A record that steps 3 and 4 of R91 leave as it is goes to step 5. -/
theorem seqWord_ok (s : State) (w : Word) {r : Record} (h : r.mnemonic ≠ .unimplemented) :
    s.seqWord w (.ok r) = s.delivered r := by
  rw [State.delivered_eq_append]
  simp [State.seqWord, seqRecord, recordOf, decodeFull, finishRecord_eq, h]

theorem seqWord_undefined (s : State) (w : Word) (reason : UndefReason) :
    s.seqWord w (.undefined reason) =
      if s.flags.continueOnError then s.delivered { mnemonic := .invalid } else s.surfaced (.undefined w s.i reason) := by
  rw [State.delivered_eq_append, State.surfaced_eq_surface]
  cases h : s.flags.continueOnError <;>
    simp [State.seqWord, seqRecord, recordOf, decodeFull, onUndefined, h, finishRecord_eq, invalidRec, Record.empty]

theorem seqWord_unimplemented (s : State) (w : Word) (k : UnimplKind) :
    s.seqWord w (.unimplemented k) =
      if s.flags.throwOnUnimplemented then s.surfaced (.unimplemented w s.i (some (.unimpl k)))
      else s.delivered { mnemonic := .unimplemented, category := some (.unimpl k) } := by
  rw [State.delivered_eq_append, State.surfaced_eq_surface]
  cases h : s.flags.throwOnUnimplemented <;>
    simp [State.seqWord, seqRecord, recordOf, decodeFull, h, finishRecord_eq, unimplRec, Record.empty]

/-- What steps 5 to 8 of R91 do with a record. -/
theorem finishRecord_state (s : State) (w : Word) (r : Record) :
    (match finishRecord s.flags s.va s.i w r with
      | .ok r' => s.append r'
      | .error e => s.surface e) =
      if s.flags.throwOnUnimplemented = true ∧ r.mnemonic = .unimplemented then
        s.surfaced (.unimplemented w s.i r.category)
      else s.delivered r := by
  rw [finishRecord_eq, State.delivered_eq_append, State.surfaced_eq_surface]
  by_cases h : s.flags.throwOnUnimplemented = true ∧ r.mnemonic = .unimplemented
  · rw [if_pos h, if_pos h]
  · rw [if_neg h, if_neg h]

/-- A delegated word leads where its collaborator's answer says. -/
theorem seqWord_delegate (s : State) (w : Word) (u : DelegateUnit) :
    s.seqWord w (.delegate u) = s.afterCollab w (Config.collab u w) := by
  simp only [State.seqWord, seqRecord, decodeFull, collabResult]
  cases Config.collab u w with
  | ok r => exact finishRecord_state s w r.withPreIndexLaw
  | undefined reason => exact seqWord_undefined s w reason
  | unimplemented k => exact seqWord_unimplemented s w k
  | unexpected e =>
    rw [State.afterCollab, State.delivered_eq_append, State.surfaced_eq_surface]
    cases h : s.flags.continueOnError <;>
      simp [recordOf, onUnexpected, h, finishRecord_eq, invalidRec, Record.empty]

/-- A core output whose record, if any, is under R43's law. -/
def RouterOut.Lawful : RouterOut → Prop
  | .ok r => r.memIsPreIndexed = decide (r.memMode = .preIndex)
  | .undefined _ => True
  | .unimplemented _ => True
  | .delegate _ => True

/-- Everything one sequencer word can do: deliver one record, stamped and under R43's law, or surface one error. -/
theorem seqWord_cases (s : State) (w : Word) {o : RouterOut} (ho : o.Lawful) :
    (∃ r : Record, s.seqWord w o = s.append r ∧ r.address = s.va + BitVec.ofNat 64 s.i ∧
      r.memIsPreIndexed = decide (r.memMode = .preIndex)) ∨ ∃ e, s.seqWord w o = s.surface e := by
  have fin : ∀ r : Record, r.memIsPreIndexed = decide (r.memMode = .preIndex) →
      (∃ r' : Record, finishRecord s.flags s.va s.i w r = .ok r' ∧ r'.address = s.va + BitVec.ofNat 64 s.i ∧
        r'.memIsPreIndexed = decide (r'.memMode = .preIndex)) ∨
      ∃ e, finishRecord s.flags s.va s.i w r = .error e := by
    intro r hr
    rw [finishRecord_eq]
    split
    · exact .inr ⟨_, rfl⟩
    · exact .inl ⟨_, rfl, deliveredRecord_address .., deliveredRecord_law _ _ _ hr⟩
  have law : ∀ r : Record, recordOf s.flags s.va s.i w (decodeFull w o) = .ok r →
      r.memIsPreIndexed = decide (r.memMode = .preIndex) := by
    intro r hr
    have inv : invalidRec.memIsPreIndexed = decide (invalidRec.memMode = .preIndex) := by decide
    have unimpl : ∀ k, (unimplRec k).memIsPreIndexed = decide ((unimplRec k).memMode = .preIndex) := fun _ => rfl
    cases o with
    | ok r0 => cases hr; exact ho
    | undefined reason =>
      simp only [decodeFull, recordOf, onUndefined] at hr
      split at hr <;> cases hr
      exact inv
    | unimplemented k => cases hr; exact unimpl k
    | delegate u =>
      simp only [decodeFull, collabResult] at hr
      split at hr <;> simp only [recordOf, onUndefined, onUnexpected] at hr
      · cases hr; rfl
      · split at hr <;> cases hr
        exact inv
      · cases hr; exact unimpl _
      · split at hr <;> cases hr
        exact inv
  simp only [State.seqWord, seqRecord]
  cases hrec : recordOf s.flags s.va s.i w (decodeFull w o) with
  | error e => exact .inr ⟨e, rfl⟩
  | ok r =>
    rcases fin r (law r hrec) with ⟨r', h, ha, hl⟩ | ⟨e, h⟩
    · exact .inl ⟨r', by simp [h], ha, hl⟩
    · exact .inr ⟨e, by simp [h]⟩

/-! ### Every instruction is one sequencer word -/

theorem pairOut_lawful (m : Mnemonic) (mode : MemMode) (opc : BitVec 2) (v : Bool) (imm7 : BitVec 7) (rt2 rn rt : RegIx) :
    (pairOut m mode opc v imm7 rt2 rn rt).Lawful := by
  unfold pairOut
  cases famPair opc v m with
  | none => exact trivial
  | some p => rfl

theorem exec_is_seqWord (i : Instr) (s : State) :
    ∃ o : RouterOut, o.Lawful ∧ exec i s = .next (s.seqWord (encode i) o) := by
  cases i
  all_goals
    refine ⟨_, ?_, rfl⟩
    first
      | exact pairOut_lawful ..
      | rfl
      | exact trivial

/-- Everything an instruction can do: deliver one record of its word, or surface one error. -/
theorem exec_cases (i : Instr) (s : State) :
    (∃ r : Record, exec i s = .next (s.append r) ∧ r.address = s.va + BitVec.ofNat 64 s.i ∧
      r.memIsPreIndexed = decide (r.memMode = .preIndex)) ∨ ∃ e, exec i s = .next (s.surface e) := by
  obtain ⟨o, ho, h⟩ := exec_is_seqWord i s
  rcases seqWord_cases s (encode i) ho with ⟨r, hr, ha, hl⟩ | ⟨e, he⟩
  · exact .inl ⟨r, by rw [h, hr], ha, hl⟩
  · exact .inr ⟨e, by rw [h, he]⟩

/-! ### A step -/

/-- The phase of a running call whose word is there (R91). -/
theorem phase_word {s : State} {w : Word} (hb : s.bufWritten = false) (hr : s.status = .running) (ha : s.i % 4 = 0)
    (hc : s.i = 0 → s.mem.len % 4 = 0) (hw : s.mem.readWord s.i = some w) : s.phase = .word w := by
  have hlt : s.i ≠ s.mem.len := by
    intro h
    simp [Memory.readWord, Memory.read, h] at hw
  have hs : ¬(s.i = 0 ∧ s.mem.len % 4 ≠ 0) := fun ⟨h0, h1⟩ => h1 (hc h0)
  simp only [State.phase, hb, hr, State.fetch, ha, hw]
  simp [hlt]
  exact fun h0 => by have := hc h0; omega

/-- Everything a step can do. -/
theorem step_cases (s : State) :
    (s.bufWritten = true ∧ step s = .refused .bufferWritten) ∨
    (s.bufWritten = false ∧ s.status ≠ .running ∧ step s = .next s.afterEnd) ∨
    (s.bufWritten = false ∧ s.status = .running ∧ s.i = 0 ∧ s.mem.len % 4 ≠ 0 ∧
      step s = .next (s.surface (.structural s.mem.len))) ∨
    (s.bufWritten = false ∧ s.status = .running ∧ (s.i = 0 → s.mem.len % 4 = 0) ∧ s.i = s.mem.len ∧
      step s = .next s.finish) ∨
    (∃ w, s.bufWritten = false ∧ s.status = .running ∧ (s.i = 0 → s.mem.len % 4 = 0) ∧ s.i % 4 = 0 ∧
      s.i ≠ s.mem.len ∧ s.mem.readWord s.i = some w ∧ step s = exec (decodeWord w) s) ∨
    (s.bufWritten = false ∧ s.status = .running ∧ s.i % 4 ≠ 0 ∧ step s = .fault .misalignedOffset) ∨
    (s.bufWritten = false ∧ s.status = .running ∧ (s.i = 0 → s.mem.len % 4 = 0) ∧ s.i % 4 = 0 ∧ s.i ≠ s.mem.len ∧
      s.mem.readWord s.i = none ∧ step s = .fault .outsideBuffer) := by
  unfold step
  cases hb : s.bufWritten with
  | true => exact .inl ⟨rfl, by simp [State.phase, hb]⟩
  | false =>
    right
    by_cases hr : s.status = .running
    · right
      by_cases hs : s.i = 0 ∧ s.mem.len % 4 ≠ 0
      · exact .inl ⟨rfl, hr, hs.1, hs.2, by simp [State.phase, hb, hr, hs]⟩
      · right
        have hc : s.i = 0 → s.mem.len % 4 = 0 := fun h0 => by
          by_contra h1
          exact hs ⟨h0, h1⟩
        by_cases he : s.i = s.mem.len
        · exact .inl ⟨rfl, hr, hc, he, by simp only [State.phase, hb, hr]; rw [if_neg hs]; simp [he]⟩
        · right
          by_cases ha : s.i % 4 = 0
          · cases hw : s.mem.readWord s.i with
            | some w => exact .inl ⟨w, rfl, hr, hc, ha, he, rfl, by simp only [phase_word hb hr ha hc hw]⟩
            | none =>
              refine .inr (.inr ⟨rfl, hr, hc, ha, he, rfl, ?_⟩)
              simp only [State.phase, hb, hr, State.fetch]
              rw [if_neg hs]
              simp [he, ha, hw]
          · refine .inr (.inl ⟨rfl, hr, ha, ?_⟩)
            simp only [State.phase, hb, hr, State.fetch]
            rw [if_neg hs]
            simp [he, ha]
    · exact .inl ⟨rfl, hr, by simp [State.phase, hb, hr]⟩

end Sys2Proof.Machine
end

