-- ==== Sys2Proof/Laws/PerInstr.lean ====
section
/-! SUPPORT. A statement about every instruction, made per instruction: the encoding of a well-formed instruction is a
loads/stores word exactly where its constructor is a loads/stores instruction (spec/30_encoding.md R130, R131). -/

-- the file's theorems are elaborated one after another, so that the compile starts no thread for each of them
set_option Elab.async false

namespace Sys2Proof.Laws

open Sys2Proof

/-- The instructions the router reaches through the loads/stores classifier (R171). -/
def isLs : Instr → Bool
  | .undefReservedGroup _ | .undefUnallocatedType _ | .unimplSme _ | .delegateSve _ | .delegateDpi _ | .delegateBes _
  | .delegateDpr _ | .delegateSimd _ => false
  | .stpPost .. | .stpOffset .. | .stpPre .. | .ldpPost .. | .ldpOffset .. | .ldpPre .. | .stgpPost ..
  | .stgpOffset .. | .stgpPre .. | .ldpswPost .. | .ldpswOffset .. | .ldpswPre .. | .strbUimm .. | .strhUimm ..
  | .strUimm .. | .ldrbUimm .. | .ldrhUimm .. | .ldrUimm .. | .ldrsbUimm .. | .ldrshUimm .. | .ldrswUimm ..
  | .prfmUimm .. | .strbRegoff .. | .strhRegoff .. | .strRegoff .. | .ldrbRegoff .. | .ldrhRegoff ..
  | .ldrRegoff .. | .ldrsbRegoff .. | .ldrshRegoff .. | .ldrswRegoff .. | .prfmRegoff .. | .sturb ..
  | .sturh .. | .stur .. | .ldurb .. | .ldurh .. | .ldur .. | .ldursb .. | .ldursh .. | .ldursw .. | .prfum ..
  | .strbPost .. | .strhPost .. | .strPost .. | .ldrbPost .. | .ldrhPost .. | .ldrPost .. | .ldrsbPost ..
  | .ldrshPost .. | .ldrswPost .. | .strbPre .. | .strhPre .. | .strPre .. | .ldrbPre .. | .ldrhPre ..
  | .ldrPre .. | .ldrsbPre .. | .ldrshPre .. | .ldrswPre .. | .undefSimdLsStruct .. | .undefPairOpc11 ..
  | .undefLsUimmCell .. | .undefLsRegoffCell .. | .undefLsUnscaledCell .. | .undefLsIndexedCell ..
  | .unimplMemoryTags .. | .unimplExclusivePair .. | .unimplExclOrderedCas .. | .unimplLdaprLiteralMemcpy ..
  | .unimplNoallocPair .. | .unimplAtomic .. | .unimplPac .. | .unimplUnprivileged ..
  | .delegateSimdLsSingle .. | .delegateSimdLsSinglePost .. => true

/-- `isLoadStore` reads two of the bits of `t` (R130). -/
theorem isLoadStore_eq_fT (w : Word) : isLoadStore w = ((fT w).getLsbD 2 && !(fT w).getLsbD 0) := by
  simp [isLoadStore, bitAt, fT, field]

/-- The family's statement. -/
def EncodeFormat.Statement (i : Instr) : Prop := i.wf = true → isLoadStore (encode i) = isLs i

/-- A word whose well-formedness names `isLoadStore`. -/
theorem encodeFormat_of_ls {i : Instr} {w : Word} (he : encode i = w) (hl : isLs i = true)
    (h : i.wf = true → isLoadStore w = true) : EncodeFormat.Statement i := by
  intro hw
  rw [he, hl, h hw]

theorem EncodeFormat.stpPost (opc : BitVec 2) (v : Bool) (imm7 : BitVec 7) (rt2 rn rt : RegIx) : EncodeFormat.Statement (.stpPost opc v imm7 rt2 rn rt) := by
  intro _
  simp [encode, isLs]

theorem EncodeFormat.stpOffset (opc : BitVec 2) (v : Bool) (imm7 : BitVec 7) (rt2 rn rt : RegIx) : EncodeFormat.Statement (.stpOffset opc v imm7 rt2 rn rt) := by
  intro _
  simp [encode, isLs]

theorem EncodeFormat.stpPre (opc : BitVec 2) (v : Bool) (imm7 : BitVec 7) (rt2 rn rt : RegIx) : EncodeFormat.Statement (.stpPre opc v imm7 rt2 rn rt) := by
  intro _
  simp [encode, isLs]

theorem EncodeFormat.ldpPost (opc : BitVec 2) (v : Bool) (imm7 : BitVec 7) (rt2 rn rt : RegIx) : EncodeFormat.Statement (.ldpPost opc v imm7 rt2 rn rt) := by
  intro _
  simp [encode, isLs]

theorem EncodeFormat.ldpOffset (opc : BitVec 2) (v : Bool) (imm7 : BitVec 7) (rt2 rn rt : RegIx) : EncodeFormat.Statement (.ldpOffset opc v imm7 rt2 rn rt) := by
  intro _
  simp [encode, isLs]

theorem EncodeFormat.ldpPre (opc : BitVec 2) (v : Bool) (imm7 : BitVec 7) (rt2 rn rt : RegIx) : EncodeFormat.Statement (.ldpPre opc v imm7 rt2 rn rt) := by
  intro _
  simp [encode, isLs]

theorem EncodeFormat.stgpPost (imm7 : BitVec 7) (rt2 rn rt : RegIx) : EncodeFormat.Statement (.stgpPost imm7 rt2 rn rt) := by
  intro _
  simp [encode, isLs]

theorem EncodeFormat.stgpOffset (imm7 : BitVec 7) (rt2 rn rt : RegIx) : EncodeFormat.Statement (.stgpOffset imm7 rt2 rn rt) := by
  intro _
  simp [encode, isLs]

theorem EncodeFormat.stgpPre (imm7 : BitVec 7) (rt2 rn rt : RegIx) : EncodeFormat.Statement (.stgpPre imm7 rt2 rn rt) := by
  intro _
  simp [encode, isLs]

theorem EncodeFormat.ldpswPost (imm7 : BitVec 7) (rt2 rn rt : RegIx) : EncodeFormat.Statement (.ldpswPost imm7 rt2 rn rt) := by
  intro _
  simp [encode, isLs]

theorem EncodeFormat.ldpswOffset (imm7 : BitVec 7) (rt2 rn rt : RegIx) : EncodeFormat.Statement (.ldpswOffset imm7 rt2 rn rt) := by
  intro _
  simp [encode, isLs]

theorem EncodeFormat.ldpswPre (imm7 : BitVec 7) (rt2 rn rt : RegIx) : EncodeFormat.Statement (.ldpswPre imm7 rt2 rn rt) := by
  intro _
  simp [encode, isLs]

theorem EncodeFormat.strbUimm (imm12 : BitVec 12) (rn rt : RegIx) : EncodeFormat.Statement (.strbUimm imm12 rn rt) := by
  intro _
  simp [encode, isLs]

theorem EncodeFormat.strhUimm (imm12 : BitVec 12) (rn rt : RegIx) : EncodeFormat.Statement (.strhUimm imm12 rn rt) := by
  intro _
  simp [encode, isLs]

theorem EncodeFormat.strUimm (c : Cell) (imm12 : BitVec 12) (rn rt : RegIx) : EncodeFormat.Statement (.strUimm c imm12 rn rt) := by
  intro _
  simp [encode, isLs]

theorem EncodeFormat.ldrbUimm (imm12 : BitVec 12) (rn rt : RegIx) : EncodeFormat.Statement (.ldrbUimm imm12 rn rt) := by
  intro _
  simp [encode, isLs]

theorem EncodeFormat.ldrhUimm (imm12 : BitVec 12) (rn rt : RegIx) : EncodeFormat.Statement (.ldrhUimm imm12 rn rt) := by
  intro _
  simp [encode, isLs]

theorem EncodeFormat.ldrUimm (c : Cell) (imm12 : BitVec 12) (rn rt : RegIx) : EncodeFormat.Statement (.ldrUimm c imm12 rn rt) := by
  intro _
  simp [encode, isLs]

theorem EncodeFormat.ldrsbUimm (c : Cell) (imm12 : BitVec 12) (rn rt : RegIx) : EncodeFormat.Statement (.ldrsbUimm c imm12 rn rt) := by
  intro _
  simp [encode, isLs]

theorem EncodeFormat.ldrshUimm (c : Cell) (imm12 : BitVec 12) (rn rt : RegIx) : EncodeFormat.Statement (.ldrshUimm c imm12 rn rt) := by
  intro _
  simp [encode, isLs]

theorem EncodeFormat.ldrswUimm (imm12 : BitVec 12) (rn rt : RegIx) : EncodeFormat.Statement (.ldrswUimm imm12 rn rt) := by
  intro _
  simp [encode, isLs]

theorem EncodeFormat.prfmUimm (imm12 : BitVec 12) (rn rt : RegIx) : EncodeFormat.Statement (.prfmUimm imm12 rn rt) := by
  intro _
  simp [encode, isLs]

theorem EncodeFormat.strbRegoff (rm : RegIx) (option : BitVec 3) (s : Bool) (rn rt : RegIx) : EncodeFormat.Statement (.strbRegoff rm option s rn rt) := by
  intro _
  simp [encode, isLs]

theorem EncodeFormat.strhRegoff (rm : RegIx) (option : BitVec 3) (s : Bool) (rn rt : RegIx) : EncodeFormat.Statement (.strhRegoff rm option s rn rt) := by
  intro _
  simp [encode, isLs]

theorem EncodeFormat.strRegoff (c : Cell) (rm : RegIx) (option : BitVec 3) (s : Bool) (rn rt : RegIx) : EncodeFormat.Statement (.strRegoff c rm option s rn rt) := by
  intro _
  simp [encode, isLs]

theorem EncodeFormat.ldrbRegoff (rm : RegIx) (option : BitVec 3) (s : Bool) (rn rt : RegIx) : EncodeFormat.Statement (.ldrbRegoff rm option s rn rt) := by
  intro _
  simp [encode, isLs]

theorem EncodeFormat.ldrhRegoff (rm : RegIx) (option : BitVec 3) (s : Bool) (rn rt : RegIx) : EncodeFormat.Statement (.ldrhRegoff rm option s rn rt) := by
  intro _
  simp [encode, isLs]

theorem EncodeFormat.ldrRegoff (c : Cell) (rm : RegIx) (option : BitVec 3) (s : Bool) (rn rt : RegIx) : EncodeFormat.Statement (.ldrRegoff c rm option s rn rt) := by
  intro _
  simp [encode, isLs]

theorem EncodeFormat.ldrsbRegoff (c : Cell) (rm : RegIx) (option : BitVec 3) (s : Bool) (rn rt : RegIx) : EncodeFormat.Statement (.ldrsbRegoff c rm option s rn rt) := by
  intro _
  simp [encode, isLs]

theorem EncodeFormat.ldrshRegoff (c : Cell) (rm : RegIx) (option : BitVec 3) (s : Bool) (rn rt : RegIx) : EncodeFormat.Statement (.ldrshRegoff c rm option s rn rt) := by
  intro _
  simp [encode, isLs]

theorem EncodeFormat.ldrswRegoff (rm : RegIx) (option : BitVec 3) (s : Bool) (rn rt : RegIx) : EncodeFormat.Statement (.ldrswRegoff rm option s rn rt) := by
  intro _
  simp [encode, isLs]

theorem EncodeFormat.prfmRegoff (c : Cell) (rm : RegIx) (option : BitVec 3) (s : Bool) (rn rt : RegIx) : EncodeFormat.Statement (.prfmRegoff c rm option s rn rt) := by
  intro _
  simp [encode, isLs]

theorem EncodeFormat.sturb (imm9 : BitVec 9) (rn rt : RegIx) : EncodeFormat.Statement (.sturb imm9 rn rt) := by
  intro _
  simp [encode, isLs]

theorem EncodeFormat.sturh (imm9 : BitVec 9) (rn rt : RegIx) : EncodeFormat.Statement (.sturh imm9 rn rt) := by
  intro _
  simp [encode, isLs]

theorem EncodeFormat.stur (c : Cell) (imm9 : BitVec 9) (rn rt : RegIx) : EncodeFormat.Statement (.stur c imm9 rn rt) := by
  intro _
  simp [encode, isLs]

theorem EncodeFormat.ldurb (imm9 : BitVec 9) (rn rt : RegIx) : EncodeFormat.Statement (.ldurb imm9 rn rt) := by
  intro _
  simp [encode, isLs]

theorem EncodeFormat.ldurh (imm9 : BitVec 9) (rn rt : RegIx) : EncodeFormat.Statement (.ldurh imm9 rn rt) := by
  intro _
  simp [encode, isLs]

theorem EncodeFormat.ldur (c : Cell) (imm9 : BitVec 9) (rn rt : RegIx) : EncodeFormat.Statement (.ldur c imm9 rn rt) := by
  intro _
  simp [encode, isLs]

theorem EncodeFormat.ldursb (c : Cell) (imm9 : BitVec 9) (rn rt : RegIx) : EncodeFormat.Statement (.ldursb c imm9 rn rt) := by
  intro _
  simp [encode, isLs]

theorem EncodeFormat.ldursh (c : Cell) (imm9 : BitVec 9) (rn rt : RegIx) : EncodeFormat.Statement (.ldursh c imm9 rn rt) := by
  intro _
  simp [encode, isLs]

theorem EncodeFormat.ldursw (imm9 : BitVec 9) (rn rt : RegIx) : EncodeFormat.Statement (.ldursw imm9 rn rt) := by
  intro _
  simp [encode, isLs]

theorem EncodeFormat.prfum (imm9 : BitVec 9) (rn rt : RegIx) : EncodeFormat.Statement (.prfum imm9 rn rt) := by
  intro _
  simp [encode, isLs]

theorem EncodeFormat.strbPost (imm9 : BitVec 9) (rn rt : RegIx) : EncodeFormat.Statement (.strbPost imm9 rn rt) := by
  intro _
  simp [encode, isLs]

theorem EncodeFormat.strhPost (imm9 : BitVec 9) (rn rt : RegIx) : EncodeFormat.Statement (.strhPost imm9 rn rt) := by
  intro _
  simp [encode, isLs]

theorem EncodeFormat.strPost (c : Cell) (imm9 : BitVec 9) (rn rt : RegIx) : EncodeFormat.Statement (.strPost c imm9 rn rt) := by
  intro _
  simp [encode, isLs]

theorem EncodeFormat.ldrbPost (imm9 : BitVec 9) (rn rt : RegIx) : EncodeFormat.Statement (.ldrbPost imm9 rn rt) := by
  intro _
  simp [encode, isLs]

theorem EncodeFormat.ldrhPost (imm9 : BitVec 9) (rn rt : RegIx) : EncodeFormat.Statement (.ldrhPost imm9 rn rt) := by
  intro _
  simp [encode, isLs]

theorem EncodeFormat.ldrPost (c : Cell) (imm9 : BitVec 9) (rn rt : RegIx) : EncodeFormat.Statement (.ldrPost c imm9 rn rt) := by
  intro _
  simp [encode, isLs]

theorem EncodeFormat.ldrsbPost (c : Cell) (imm9 : BitVec 9) (rn rt : RegIx) : EncodeFormat.Statement (.ldrsbPost c imm9 rn rt) := by
  intro _
  simp [encode, isLs]

theorem EncodeFormat.ldrshPost (c : Cell) (imm9 : BitVec 9) (rn rt : RegIx) : EncodeFormat.Statement (.ldrshPost c imm9 rn rt) := by
  intro _
  simp [encode, isLs]

theorem EncodeFormat.ldrswPost (imm9 : BitVec 9) (rn rt : RegIx) : EncodeFormat.Statement (.ldrswPost imm9 rn rt) := by
  intro _
  simp [encode, isLs]

theorem EncodeFormat.strbPre (imm9 : BitVec 9) (rn rt : RegIx) : EncodeFormat.Statement (.strbPre imm9 rn rt) := by
  intro _
  simp [encode, isLs]

theorem EncodeFormat.strhPre (imm9 : BitVec 9) (rn rt : RegIx) : EncodeFormat.Statement (.strhPre imm9 rn rt) := by
  intro _
  simp [encode, isLs]

theorem EncodeFormat.strPre (c : Cell) (imm9 : BitVec 9) (rn rt : RegIx) : EncodeFormat.Statement (.strPre c imm9 rn rt) := by
  intro _
  simp [encode, isLs]

theorem EncodeFormat.ldrbPre (imm9 : BitVec 9) (rn rt : RegIx) : EncodeFormat.Statement (.ldrbPre imm9 rn rt) := by
  intro _
  simp [encode, isLs]

theorem EncodeFormat.ldrhPre (imm9 : BitVec 9) (rn rt : RegIx) : EncodeFormat.Statement (.ldrhPre imm9 rn rt) := by
  intro _
  simp [encode, isLs]

theorem EncodeFormat.ldrPre (c : Cell) (imm9 : BitVec 9) (rn rt : RegIx) : EncodeFormat.Statement (.ldrPre c imm9 rn rt) := by
  intro _
  simp [encode, isLs]

theorem EncodeFormat.ldrsbPre (c : Cell) (imm9 : BitVec 9) (rn rt : RegIx) : EncodeFormat.Statement (.ldrsbPre c imm9 rn rt) := by
  intro _
  simp [encode, isLs]

theorem EncodeFormat.ldrshPre (c : Cell) (imm9 : BitVec 9) (rn rt : RegIx) : EncodeFormat.Statement (.ldrshPre c imm9 rn rt) := by
  intro _
  simp [encode, isLs]

theorem EncodeFormat.ldrswPre (imm9 : BitVec 9) (rn rt : RegIx) : EncodeFormat.Statement (.ldrswPre imm9 rn rt) := by
  intro _
  simp [encode, isLs]

theorem EncodeFormat.undefReservedGroup (word : Word) : EncodeFormat.Statement (.undefReservedGroup word) := by
  intro h
  simp only [Instr.wf, Bool.and_eq_true, decide_eq_true_eq] at h
  simp_all [isLoadStore_eq_fT, encode, isLs]

theorem EncodeFormat.undefUnallocatedType (word : Word) : EncodeFormat.Statement (.undefUnallocatedType word) := by
  intro h
  simp only [Instr.wf, Bool.or_eq_true, decide_eq_true_eq] at h
  rcases h with h | h <;> simp_all [isLoadStore_eq_fT, encode, isLs]

theorem EncodeFormat.undefSimdLsStruct (word : Word) : EncodeFormat.Statement (.undefSimdLsStruct word) := by
  refine encodeFormat_of_ls (w := word) rfl rfl fun h => ?_
  simp_all [Instr.wf, isSimdStruct]

theorem EncodeFormat.undefPairOpc11 (word : Word) : EncodeFormat.Statement (.undefPairOpc11 word) := by
  refine encodeFormat_of_ls (w := word) rfl rfl fun h => ?_
  simp_all [Instr.wf, isPair]

theorem EncodeFormat.undefLsUimmCell (word : Word) : EncodeFormat.Statement (.undefLsUimmCell word) := by
  refine encodeFormat_of_ls (w := word) rfl rfl fun h => ?_
  simp_all [Instr.wf, isRegOrAtomic]

theorem EncodeFormat.undefLsRegoffCell (word : Word) : EncodeFormat.Statement (.undefLsRegoffCell word) := by
  refine encodeFormat_of_ls (w := word) rfl rfl fun h => ?_
  simp_all [Instr.wf, isRegOrAtomic]

theorem EncodeFormat.undefLsUnscaledCell (word : Word) : EncodeFormat.Statement (.undefLsUnscaledCell word) := by
  refine encodeFormat_of_ls (w := word) rfl rfl fun h => ?_
  simp_all [Instr.wf, isRegOrAtomic]

theorem EncodeFormat.undefLsIndexedCell (word : Word) : EncodeFormat.Statement (.undefLsIndexedCell word) := by
  refine encodeFormat_of_ls (w := word) rfl rfl fun h => ?_
  simp_all [Instr.wf, isRegOrAtomic]

theorem EncodeFormat.unimplSme (word : Word) : EncodeFormat.Statement (.unimplSme word) := by
  intro h
  simp only [Instr.wf, Bool.and_eq_true, decide_eq_true_eq] at h
  simp_all [isLoadStore_eq_fT, encode, isLs]

theorem EncodeFormat.unimplMemoryTags (word : Word) : EncodeFormat.Statement (.unimplMemoryTags word) := by
  refine encodeFormat_of_ls (w := word) rfl rfl fun h => ?_
  simp_all [Instr.wf, isMemoryTags]

theorem EncodeFormat.unimplExclusivePair (word : Word) : EncodeFormat.Statement (.unimplExclusivePair word) := by
  refine encodeFormat_of_ls (w := word) rfl rfl fun h => ?_
  simp_all [Instr.wf]

theorem EncodeFormat.unimplExclOrderedCas (word : Word) : EncodeFormat.Statement (.unimplExclOrderedCas word) := by
  refine encodeFormat_of_ls (w := word) rfl rfl fun h => ?_
  simp_all [Instr.wf, isSimdStruct]

theorem EncodeFormat.unimplLdaprLiteralMemcpy (word : Word) : EncodeFormat.Statement (.unimplLdaprLiteralMemcpy word) := by
  refine encodeFormat_of_ls (w := word) rfl rfl fun h => ?_
  simp_all [Instr.wf, isMemoryTags]

theorem EncodeFormat.unimplNoallocPair (word : Word) : EncodeFormat.Statement (.unimplNoallocPair word) := by
  refine encodeFormat_of_ls (w := word) rfl rfl fun h => ?_
  simp_all [Instr.wf, isPair]

theorem EncodeFormat.unimplAtomic (word : Word) : EncodeFormat.Statement (.unimplAtomic word) := by
  refine encodeFormat_of_ls (w := word) rfl rfl fun h => ?_
  simp_all [Instr.wf, isRegOrAtomic]

theorem EncodeFormat.unimplPac (word : Word) : EncodeFormat.Statement (.unimplPac word) := by
  refine encodeFormat_of_ls (w := word) rfl rfl fun h => ?_
  simp_all [Instr.wf, isRegOrAtomic]

theorem EncodeFormat.unimplUnprivileged (word : Word) : EncodeFormat.Statement (.unimplUnprivileged word) := by
  refine encodeFormat_of_ls (w := word) rfl rfl fun h => ?_
  simp_all [Instr.wf, isRegOrAtomic]

theorem EncodeFormat.delegateSve (word : Word) : EncodeFormat.Statement (.delegateSve word) := by
  intro h
  simp only [Instr.wf, decide_eq_true_eq] at h
  simp_all [isLoadStore_eq_fT, encode, isLs]

theorem EncodeFormat.delegateDpi (word : Word) : EncodeFormat.Statement (.delegateDpi word) := by
  intro h
  simp only [Instr.wf, Bool.or_eq_true, decide_eq_true_eq] at h
  rcases h with h | h <;> simp_all [isLoadStore_eq_fT, encode, isLs]

theorem EncodeFormat.delegateBes (word : Word) : EncodeFormat.Statement (.delegateBes word) := by
  intro h
  simp only [Instr.wf, Bool.or_eq_true, decide_eq_true_eq] at h
  rcases h with h | h <;> simp_all [isLoadStore_eq_fT, encode, isLs]

theorem EncodeFormat.delegateDpr (word : Word) : EncodeFormat.Statement (.delegateDpr word) := by
  intro h
  simp only [Instr.wf, Bool.or_eq_true, decide_eq_true_eq] at h
  rcases h with h | h <;> simp_all [isLoadStore_eq_fT, encode, isLs]

theorem EncodeFormat.delegateSimd (word : Word) : EncodeFormat.Statement (.delegateSimd word) := by
  intro h
  simp only [Instr.wf, Bool.or_eq_true, decide_eq_true_eq] at h
  rcases h with h | h <;> simp_all [isLoadStore_eq_fT, encode, isLs]

theorem EncodeFormat.delegateSimdLsSingle (word : Word) : EncodeFormat.Statement (.delegateSimdLsSingle word) := by
  refine encodeFormat_of_ls (w := word) rfl rfl fun h => ?_
  simp_all [Instr.wf, isSimdStruct]

theorem EncodeFormat.delegateSimdLsSinglePost (word : Word) : EncodeFormat.Statement (.delegateSimdLsSinglePost word) := by
  refine encodeFormat_of_ls (w := word) rfl rfl fun h => ?_
  simp_all [Instr.wf, isSimdStruct]

end Sys2Proof.Laws
end

