-- ==== Sys2Proof/Tests/Slice0.lean ====
section
/-! SUPPORT. The model's own tests, each a named theorem: the WellFormed smoke test (an ill-formed term for each check), the
decoding of a word written out bit by bit from the spec's encoding string for every instruction, one step on that word
from the state after reset, and for every statement with hypotheses a state and operands that meet them. Expected results
are the spec's own examples (named in each comment) or worked out by hand from its rules. -/

-- the file's theorems are elaborated one after another, so that the compile starts no thread for each of them
set_option Elab.async false

namespace Sys2Proof.Tests

open Sys2Proof Machine

/-! ### Helpers -/

/-- Flags under which no error is surfaced and no OPEN rewrite touches a record. -/
def lenient : Flags := { remapAliases := false, continueOnError := true, throwOnUnimplemented := false }

/-- Flags under which every error is surfaced. -/
def strict : Flags := { remapAliases := false, continueOnError := false, throwOnUnimplemented := true }

/-- The state after reset with the given flags and the word `w` where the step fetches. -/
def placed (f : Flags) (w : Word) : State := { State.reset with flags := f }.withFetchWord 32 w.toNat

/-- The record that one step appends. -/
def stepRecord (w : Word) : Option Record :=
  match step (placed lenient w) with
  | .next t => t.out.head?
  | .fault _ => none
  | .refused _ => none

/-- The error that one step surfaces. -/
def stepError (w : Word) : Option CallError :=
  match step (placed strict w) with
  | .next t =>
    match t.status with
    | .failed e => some e
    | .running => none
    | .done => none
  | .fault _ => none
  | .refused _ => none

/-! ### WellFormed: an ill-formed term for each check -/

/-- The cell `opc = 11` and the cell `(01, 0)` are no STP or LDP cells (R200, R213). -/
theorem test_wf_refuses_pair_cells :
    Instr.wf (.stpPost 0b11 false 0 0 0 0) = false ∧ Instr.wf (.stpOffset 0b01 false 0 0 0 0) = false ∧
    Instr.wf (.stpPre 0b11 true 0 0 0 0) = false ∧ Instr.wf (.ldpPost 0b01 false 0 0 0 0) = false ∧
    Instr.wf (.ldpOffset 0b11 false 0 0 0 0) = false ∧ Instr.wf (.ldpPre 0b11 true 0 0 0 0) = false := by decide

/-- A cell of another mnemonic is refused by each unsigned-immediate instruction with cells (R233, R236-R238). -/
theorem test_wf_refuses_uimm_cells :
    Instr.wf (.strUimm ⟨0b00, 0b00, false⟩ 0 0 0) = false ∧ Instr.wf (.ldrUimm ⟨0b10, 0b00, true⟩ 0 0 0) = false ∧
    Instr.wf (.ldrsbUimm ⟨0b10, 0b01, false⟩ 0 0 0) = false ∧ Instr.wf (.ldrshUimm ⟨0b10, 0b10, false⟩ 0 0 0) = false := by
  decide

/-- The same for the register-offset form, PRFM's two cells included (R264, R267-R269, R271). -/
theorem test_wf_refuses_regoff_cells :
    Instr.wf (.strRegoff ⟨0b10, 0b01, true⟩ 0 0 false 0 0) = false ∧
    Instr.wf (.ldrRegoff ⟨0b11, 0b01, true⟩ 0 0 false 0 0) = false ∧
    Instr.wf (.ldrsbRegoff ⟨0b01, 0b00, false⟩ 0 0 false 0 0) = false ∧
    Instr.wf (.ldrshRegoff ⟨0b01, 0b01, false⟩ 0 0 false 0 0) = false ∧
    Instr.wf (.prfmRegoff ⟨0b11, 0b11, false⟩ 0 0 false 0 0) = false := by decide

/-- The same for the unscaled form (R293, R296-R298). -/
theorem test_wf_refuses_unscaled_cells :
    Instr.wf (.stur ⟨0b00, 0b01, false⟩ 0 0 0) = false ∧ Instr.wf (.ldur ⟨0b01, 0b00, false⟩ 0 0 0) = false ∧
    Instr.wf (.ldursb ⟨0b11, 0b01, false⟩ 0 0 0) = false ∧ Instr.wf (.ldursh ⟨0b11, 0b10, false⟩ 0 0 0) = false := by
  decide

/-- The same for both indexed forms (R323, R326-R328, R333, R336-R338). -/
theorem test_wf_refuses_indexed_cells :
    Instr.wf (.strPost ⟨0b10, 0b10, true⟩ 0 0 0) = false ∧ Instr.wf (.ldrPost ⟨0b11, 0b10, false⟩ 0 0 0) = false ∧
    Instr.wf (.ldrsbPost ⟨0b10, 0b10, false⟩ 0 0 0) = false ∧ Instr.wf (.ldrshPost ⟨0b11, 0b00, false⟩ 0 0 0) = false ∧
    Instr.wf (.strPre ⟨0b01, 0b11, false⟩ 0 0 0) = false ∧ Instr.wf (.ldrPre ⟨0b00, 0b11, false⟩ 0 0 0) = false ∧
    Instr.wf (.ldrsbPre ⟨0b10, 0b11, false⟩ 0 0 0) = false ∧ Instr.wf (.ldrshPre ⟨0b10, 0b01, true⟩ 0 0 0) = false := by
  decide

/-- A word of another outcome is refused by each Undefined instruction (R401). -/
theorem test_wf_refuses_undefined_words :
    Instr.wf (.undefReservedGroup 0x80000000) = false ∧ Instr.wf (.undefUnallocatedType 0x04000000) = false ∧
    Instr.wf (.undefSimdLsStruct 0x0D400000) = false ∧ Instr.wf (.undefPairOpc11 0xA9BF7BFD) = false ∧
    Instr.wf (.undefLsUimmCell 0xB9C00020) = false ∧ Instr.wf (.undefLsRegoffCell 0xF8A06800) = false ∧
    Instr.wf (.undefLsUnscaledCell 0xB8C00000) = false ∧ Instr.wf (.undefLsIndexedCell 0xF8400800) = false := by decide

/-- A word of another outcome is refused by each Unimplemented instruction (R402); EXCL_ORDERED_CAS has no word (R175). -/
theorem test_wf_refuses_unimplemented_words :
    Instr.wf (.unimplSme 0x00000000) = false ∧ Instr.wf (.unimplMemoryTags 0x58000000) = false ∧
    Instr.wf (.unimplExclusivePair 0x0D400000) = false ∧ Instr.wf (.unimplExclOrderedCas 0xC85F7C00) = false ∧
    Instr.wf (.unimplLdaprLiteralMemcpy 0xD9200000) = false ∧ Instr.wf (.unimplNoallocPair 0xA9BF7BFD) = false ∧
    Instr.wf (.unimplAtomic 0xF8200400) = false ∧ Instr.wf (.unimplPac 0xF8200000) = false ∧
    Instr.wf (.unimplUnprivileged 0xF8400400) = false := by decide

/-- A word of another unit is refused by each delegated instruction (R130, R131). -/
theorem test_wf_refuses_delegated_words :
    Instr.wf (.delegateSve 0x02000000) = false ∧ Instr.wf (.delegateDpi 0xD503201F) = false ∧
    Instr.wf (.delegateBes 0x12000000) = false ∧ Instr.wf (.delegateDpr 0x0E000000) = false ∧
    Instr.wf (.delegateSimd 0x0A000000) = false ∧ Instr.wf (.delegateSimdLsSingle 0x0C010000) = false ∧
    Instr.wf (.delegateSimdLsSinglePost 0x0D400000) = false := by decide

/-! ### Each instruction: a word written out from its encoding, and one step on it -/

/-- R201: STP X0, X1, [SP], #16. -/
theorem test_stpPost_word :
    decodeWord 0b10101000100000010000011111100000#32 = .stpPost 0b10 false 2 1 31 0 := by decide

/-- R201: STP X0, X1, [SP], #16. -/
theorem test_stpPost_step :
    stepRecord 0xA88107E0 = some {
      mnemonic := .stp, category := some .loadStore, op0Kind := .register, op2Kind := .memory,
      op1Kind := .register, op0Reg := .reg .X 0, op1Reg := .reg .X 1, memBase := .reg .X 31, memOffset := 16,
      memMode := .postIndex } := by decide

/-- R202: STP W1, W3, [X2, #4]. -/
theorem test_stpOffset_word :
    decodeWord 0b00101001000000001000110001000001#32 = .stpOffset 0b00 false 1 3 2 1 := by decide

/-- R202: STP W1, W3, [X2, #4]. -/
theorem test_stpOffset_step :
    stepRecord 0x29008C41 = some {
      mnemonic := .stp, category := some .loadStore, op0Kind := .register, op2Kind := .memory,
      op1Kind := .register, op0Reg := .reg .W 1, op1Reg := .reg .W 3, memBase := .reg .X 2, memOffset := 4 } := by decide

/-- R203: STP X29, X30, [SP, #-16]!. -/
theorem test_stpPre_word :
    decodeWord 0b10101001101111110111101111111101#32 = .stpPre 0b10 false (-2) 30 31 29 := by decide

/-- R203: STP X29, X30, [SP, #-16]!. -/
theorem test_stpPre_step :
    stepRecord 0xA9BF7BFD = some {
      mnemonic := .stp, category := some .loadStore, op0Kind := .register, op2Kind := .memory,
      op1Kind := .register, op0Reg := .reg .X 29, op1Reg := .reg .X 30, memBase := .reg .X 31, memOffset := -16,
      memMode := .preIndex, memIsPreIndexed := true } := by decide

/-- R204: LDP V0, V1, [X3], #1008. -/
theorem test_ldpPost_word :
    decodeWord 0b10101100110111111000010001100000#32 = .ldpPost 0b10 true 63 1 3 0 := by decide

/-- R204: LDP V0, V1, [X3], #1008. -/
theorem test_ldpPost_step :
    stepRecord 0xACDF8460 = some {
      mnemonic := .ldp, category := some .loadStore, op0Kind := .register, op2Kind := .memory,
      op1Kind := .register, op0Reg := .reg .V 0, op1Reg := .reg .V 1, memBase := .reg .X 3, memOffset := 1008,
      memMode := .postIndex } := by decide

/-- R205: LDP S4, S5, [X4, #-256]. -/
theorem test_ldpOffset_word :
    decodeWord 0b00101101011000000001010010000100#32 = .ldpOffset 0b00 true (-64) 5 4 4 := by decide

/-- R205: LDP S4, S5, [X4, #-256]. -/
theorem test_ldpOffset_step :
    stepRecord 0x2D601484 = some {
      mnemonic := .ldp, category := some .loadStore, op0Kind := .register, op2Kind := .memory,
      op1Kind := .register, op0Reg := .reg .S 4, op1Reg := .reg .S 5, memBase := .reg .X 4, memOffset := -256 } := by decide

/-- R206: LDP D8, D9, [SP, #-8]!. -/
theorem test_ldpPre_word :
    decodeWord 0b01101101111111111010011111101000#32 = .ldpPre 0b01 true (-1) 9 31 8 := by decide

/-- R206: LDP D8, D9, [SP, #-8]!. -/
theorem test_ldpPre_step :
    stepRecord 0x6DFFA7E8 = some {
      mnemonic := .ldp, category := some .loadStore, op0Kind := .register, op2Kind := .memory,
      op1Kind := .register, op0Reg := .reg .D 8, op1Reg := .reg .D 9, memBase := .reg .X 31, memOffset := -8,
      memMode := .preIndex, memIsPreIndexed := true } := by decide

/-- R207: STGP W1, W2, [X0], #4. -/
theorem test_stgpPost_word :
    decodeWord 0b01101000100000001000100000000001#32 = .stgpPost 1 2 0 1 := by decide

/-- R207: STGP W1, W2, [X0], #4. -/
theorem test_stgpPost_step :
    stepRecord 0x68808801 = some {
      mnemonic := .stgp, category := some .loadStore, op0Kind := .register, op2Kind := .memory,
      op1Kind := .register, op0Reg := .reg .W 1, op1Reg := .reg .W 2, memBase := .reg .X 0, memOffset := 4,
      memMode := .postIndex } := by decide

/-- R208: STGP W1, W2, [X0, #-16]. -/
theorem test_stgpOffset_word :
    decodeWord 0b01101001001111100000100000000001#32 = .stgpOffset (-4) 2 0 1 := by decide

/-- R208: STGP W1, W2, [X0, #-16]. -/
theorem test_stgpOffset_step :
    stepRecord 0x693E0801 = some {
      mnemonic := .stgp, category := some .loadStore, op0Kind := .register, op2Kind := .memory,
      op1Kind := .register, op0Reg := .reg .W 1, op1Reg := .reg .W 2, memBase := .reg .X 0, memOffset := -16 } := by decide

/-- R209: STGP W1, W2, [SP, #8]!. -/
theorem test_stgpPre_word :
    decodeWord 0b01101001100000010000101111100001#32 = .stgpPre 2 2 31 1 := by decide

/-- R209: STGP W1, W2, [SP, #8]!. -/
theorem test_stgpPre_step :
    stepRecord 0x69810BE1 = some {
      mnemonic := .stgp, category := some .loadStore, op0Kind := .register, op2Kind := .memory,
      op1Kind := .register, op0Reg := .reg .W 1, op1Reg := .reg .W 2, memBase := .reg .X 31, memOffset := 8,
      memMode := .preIndex, memIsPreIndexed := true } := by decide

/-- R210: LDPSW D0, D1, [X2], #8. -/
theorem test_ldpswPost_word :
    decodeWord 0b01101000110000001000010001000000#32 = .ldpswPost 1 1 2 0 := by decide

/-- R210: LDPSW D0, D1, [X2], #8. -/
theorem test_ldpswPost_step :
    stepRecord 0x68C08440 = some {
      mnemonic := .ldpsw, category := some .loadStore, op0Kind := .register, op2Kind := .memory,
      op1Kind := .register, op0Reg := .reg .D 0, op1Reg := .reg .D 1, memBase := .reg .X 2, memOffset := 8,
      memMode := .postIndex } := by decide

/-- R211: LDPSW D0, D1, [X2, #16]. -/
theorem test_ldpswOffset_word :
    decodeWord 0b01101001010000010000010001000000#32 = .ldpswOffset 2 1 2 0 := by decide

/-- R211: LDPSW D0, D1, [X2, #16]. -/
theorem test_ldpswOffset_step :
    stepRecord 0x69410440 = some {
      mnemonic := .ldpsw, category := some .loadStore, op0Kind := .register, op2Kind := .memory,
      op1Kind := .register, op0Reg := .reg .D 0, op1Reg := .reg .D 1, memBase := .reg .X 2, memOffset := 16 } := by decide

/-- R212: LDPSW D0, D1, [X2, #-24]!. -/
theorem test_ldpswPre_word :
    decodeWord 0b01101001111111101000010001000000#32 = .ldpswPre (-3) 1 2 0 := by decide

/-- R212: LDPSW D0, D1, [X2, #-24]!. -/
theorem test_ldpswPre_step :
    stepRecord 0x69FE8440 = some {
      mnemonic := .ldpsw, category := some .loadStore, op0Kind := .register, op2Kind := .memory,
      op1Kind := .register, op0Reg := .reg .D 0, op1Reg := .reg .D 1, memBase := .reg .X 2, memOffset := -24,
      memMode := .preIndex, memIsPreIndexed := true } := by decide

/-- R231: STRB W1, [X2, #4095]. -/
theorem test_strbUimm_word :
    decodeWord 0b00111001001111111111110001000001#32 = .strbUimm 4095 2 1 := by decide

/-- R231: STRB W1, [X2, #4095]. -/
theorem test_strbUimm_step :
    stepRecord 0x393FFC41 = some {
      mnemonic := .strb, category := some .loadStore, op0Kind := .register, op1Kind := .memory,
      op0Reg := .reg .W 1, memBase := .reg .X 2, memOffset := 4095 } := by decide

/-- R232: STRH W1, [X2, #6]. -/
theorem test_strhUimm_word :
    decodeWord 0b01111001000000000000110001000001#32 = .strhUimm 3 2 1 := by decide

/-- R232: STRH W1, [X2, #6]. -/
theorem test_strhUimm_step :
    stepRecord 0x79000C41 = some {
      mnemonic := .strh, category := some .loadStore, op0Kind := .register, op1Kind := .memory,
      op0Reg := .reg .W 1, memBase := .reg .X 2, memOffset := 6 } := by decide

/-- R233: STR X0, [X1, #32760]; R233: STR V1, [X0, #5]. -/
theorem test_strUimm_word :
    decodeWord 0b11111001001111111111110000100000#32 = .strUimm ⟨0b00, 0b11, false⟩ 4095 1 0 ∧
    decodeWord 0b00111101100000000001010000000001#32 = .strUimm ⟨0b10, 0b00, true⟩ 5 0 1 := by decide

/-- R233: STR V1, [X0, #5]. -/
theorem test_strUimm_step :
    stepRecord 0x3D801401 = some {
      mnemonic := .str, category := some .loadStore, op0Kind := .register, op1Kind := .memory,
      op0Reg := .reg .V 1, memBase := .reg .X 0, memOffset := 5 } := by decide

/-- R234: LDRB W2, [X3, #7]. -/
theorem test_ldrbUimm_word :
    decodeWord 0b00111001010000000001110001100010#32 = .ldrbUimm 7 3 2 := by decide

/-- R234: LDRB W2, [X3, #7]. -/
theorem test_ldrbUimm_step :
    stepRecord 0x39401C62 = some {
      mnemonic := .ldrb, category := some .loadStore, op0Kind := .register, op1Kind := .memory,
      op0Reg := .reg .W 2, memBase := .reg .X 3, memOffset := 7 } := by decide

/-- R235: LDRH W2, [X3, #4]. -/
theorem test_ldrhUimm_word :
    decodeWord 0b01111001010000000000100001100010#32 = .ldrhUimm 2 3 2 := by decide

/-- R235: LDRH W2, [X3, #4]. -/
theorem test_ldrhUimm_step :
    stepRecord 0x79400862 = some {
      mnemonic := .ldrh, category := some .loadStore, op0Kind := .register, op1Kind := .memory,
      op0Reg := .reg .W 2, memBase := .reg .X 3, memOffset := 4 } := by decide

/-- R236: LDR X1, [X0, #8]; R236: LDR V2, [X3, #32]. -/
theorem test_ldrUimm_word :
    decodeWord 0b11111001010000000000010000000001#32 = .ldrUimm ⟨0b01, 0b11, false⟩ 1 0 1 ∧
    decodeWord 0b11111101010000000001000001100010#32 = .ldrUimm ⟨0b01, 0b11, true⟩ 4 3 2 := by decide

/-- R236: LDR V2, [X3, #32]. -/
theorem test_ldrUimm_step :
    stepRecord 0xFD401062 = some {
      mnemonic := .ldr, category := some .loadStore, op0Kind := .register, op1Kind := .memory,
      op0Reg := .reg .V 2, memBase := .reg .X 3, memOffset := 32 } := by decide

/-- R237: LDRSB X5, [X4, #9]. -/
theorem test_ldrsbUimm_word :
    decodeWord 0b00111001100000000010010010000101#32 = .ldrsbUimm ⟨0b10, 0b00, false⟩ 9 4 5 := by decide

/-- R237: LDRSB X5, [X4, #9]. -/
theorem test_ldrsbUimm_step :
    stepRecord 0x39802485 = some {
      mnemonic := .ldrsb, category := some .loadStore, op0Kind := .register, op1Kind := .memory,
      op0Reg := .reg .X 5, memBase := .reg .X 4, memOffset := 9 } := by decide

/-- R238: LDRSH W5, [X4, #18]. -/
theorem test_ldrshUimm_word :
    decodeWord 0b01111001110000000010010010000101#32 = .ldrshUimm ⟨0b11, 0b01, false⟩ 9 4 5 := by decide

/-- R238: LDRSH W5, [X4, #18]. -/
theorem test_ldrshUimm_step :
    stepRecord 0x79C02485 = some {
      mnemonic := .ldrsh, category := some .loadStore, op0Kind := .register, op1Kind := .memory,
      op0Reg := .reg .W 5, memBase := .reg .X 4, memOffset := 18 } := by decide

/-- R239: LDRSW X5, [X4, #16380]. -/
theorem test_ldrswUimm_word :
    decodeWord 0b10111001101111111111110010000101#32 = .ldrswUimm 4095 4 5 := by decide

/-- R239: LDRSW X5, [X4, #16380]. -/
theorem test_ldrswUimm_step :
    stepRecord 0xB9BFFC85 = some {
      mnemonic := .ldrsw, category := some .loadStore, op0Kind := .register, op1Kind := .memory,
      op0Reg := .reg .X 5, memBase := .reg .X 4, memOffset := 16380 } := by decide

/-- R240. -/
theorem test_prfmUimm_word :
    decodeWord 0b10111001110000000000000000100000#32 = .prfmUimm 0 1 0 := by decide

/-- R240: inert with the flag clear, surfaced with it set (R408, R418). -/
theorem test_prfmUimm_step :
    stepRecord 0xB9C00020 = some { mnemonic := .unimplemented, category := some (.unimpl .prfm) } ∧
    stepError 0xB9C00020 = some (.unimplemented 0xB9C00020 0 (some (.unimpl .prfm))) := by decide

/-- R262: STRB W0, [X1, X2, LSL], amount 0. -/
theorem test_strbRegoff_word :
    decodeWord 0b00111000001000100111100000100000#32 = .strbRegoff 2 0b011 true 1 0 := by decide

/-- R262: STRB W0, [X1, X2, LSL], amount 0. -/
theorem test_strbRegoff_step :
    stepRecord 0x38227820 = some {
      mnemonic := .strb, category := some .loadStore, op0Kind := .register, op1Kind := .memory,
      op0Reg := .reg .W 0, memBase := .reg .X 1, memAddendReg := .reg .X 2, memExtendType := .none,
      memShiftType := .lsl, memAmount := 0 } := by decide

/-- R263: STRH W0, [X1, X3, LSL #1]. -/
theorem test_strhRegoff_word :
    decodeWord 0b01111000001000110111100000100000#32 = .strhRegoff 3 0b011 true 1 0 := by decide

/-- R263: STRH W0, [X1, X3, LSL #1]. -/
theorem test_strhRegoff_step :
    stepRecord 0x78237820 = some {
      mnemonic := .strh, category := some .loadStore, op0Kind := .register, op1Kind := .memory,
      op0Reg := .reg .W 0, memBase := .reg .X 1, memAddendReg := .reg .X 3, memExtendType := .none,
      memShiftType := .lsl, memAmount := 1 } := by decide

/-- R264: STR X1, [X2, X3, LSL #3]; R264: STR V1, [X2, X3, LSL], amount 0. -/
theorem test_strRegoff_word :
    decodeWord 0b11111000001000110111100001000001#32 = .strRegoff ⟨0b00, 0b11, false⟩ 3 0b011 true 2 1 ∧
    decodeWord 0b00111100101000110111100001000001#32 = .strRegoff ⟨0b10, 0b00, true⟩ 3 0b011 true 2 1 := by decide

/-- R264: STR V1, [X2, X3, LSL], amount 0. -/
theorem test_strRegoff_step :
    stepRecord 0x3CA37841 = some {
      mnemonic := .str, category := some .loadStore, op0Kind := .register, op1Kind := .memory,
      op0Reg := .reg .V 1, memBase := .reg .X 2, memAddendReg := .reg .X 3, memExtendType := .none,
      memShiftType := .lsl, memAmount := 0 } := by decide

/-- R265: LDRB W0, [X1, W0, UXTW]; R265: LDRB W0, [X1, X0, LSL]. -/
theorem test_ldrbRegoff_word :
    decodeWord 0b00111000011000000100100000100000#32 = .ldrbRegoff 0 0b010 false 1 0 ∧
    decodeWord 0b00111000011000000110100000100000#32 = .ldrbRegoff 0 0b011 false 1 0 := by decide

/-- R265: LDRB W0, [X1, X0, LSL]. -/
theorem test_ldrbRegoff_step :
    stepRecord 0x38606820 = some {
      mnemonic := .ldrb, category := some .loadStore, op0Kind := .register, op1Kind := .memory,
      op0Reg := .reg .W 0, memBase := .reg .X 1, memAddendReg := .reg .X 0, memExtendType := .none,
      memShiftType := .lsl, memAmount := 0 } := by decide

/-- R266: LDRH W6, [X5, W4, SXTW]; its amount is open. -/
theorem test_ldrhRegoff_word :
    decodeWord 0b01111000011001001101100010100110#32 = .ldrhRegoff 4 0b110 true 5 6 := by decide

/-- R266: LDRH W6, [X5, W4, SXTW]; its amount is open. -/
theorem test_ldrhRegoff_step :
    (stepRecord 0x7864D8A6).map (fun r => (r.mnemonic, r.memAddendReg, r.memExtendType)) =
      some (.ldrh, .reg .W 4, .ext 6) := by decide

/-- R267: LDR X6, [X5, X4, LSL #3]; R267: LDR V6, [X5, X4, LSL #4]. -/
theorem test_ldrRegoff_word :
    decodeWord 0b11111000011001000111100010100110#32 = .ldrRegoff ⟨0b01, 0b11, false⟩ 4 0b011 true 5 6 ∧
    decodeWord 0b00111100111001000111100010100110#32 = .ldrRegoff ⟨0b11, 0b00, true⟩ 4 0b011 true 5 6 := by decide

/-- R267: LDR V6, [X5, X4, LSL #4]. -/
theorem test_ldrRegoff_step :
    stepRecord 0x3CE478A6 = some {
      mnemonic := .ldr, category := some .loadStore, op0Kind := .register, op1Kind := .memory,
      op0Reg := .reg .V 6, memBase := .reg .X 5, memAddendReg := .reg .X 4, memExtendType := .none,
      memShiftType := .lsl, memAmount := 4 } := by decide

/-- R268: LDRSB W9, [X8, X7, SXTX]. -/
theorem test_ldrsbRegoff_word :
    decodeWord 0b00111000111001111110100100001001#32 = .ldrsbRegoff ⟨0b11, 0b00, false⟩ 7 0b111 false 8 9 := by decide

/-- R268: LDRSB W9, [X8, X7, SXTX]. -/
theorem test_ldrsbRegoff_step :
    stepRecord 0x38E7E909 = some {
      mnemonic := .ldrsb, category := some .loadStore, op0Kind := .register, op1Kind := .memory,
      op0Reg := .reg .W 9, memBase := .reg .X 8, memAddendReg := .reg .X 7, memExtendType := .ext 7,
      memShiftType := .none, memAmount := 0 } := by decide

/-- R269: LDRSH X9, [X8, X7, LSL #1]. -/
theorem test_ldrshRegoff_word :
    decodeWord 0b01111000101001110111100100001001#32 = .ldrshRegoff ⟨0b10, 0b01, false⟩ 7 0b011 true 8 9 := by decide

/-- R269: LDRSH X9, [X8, X7, LSL #1]. -/
theorem test_ldrshRegoff_step :
    stepRecord 0x78A77909 = some {
      mnemonic := .ldrsh, category := some .loadStore, op0Kind := .register, op1Kind := .memory,
      op0Reg := .reg .X 9, memBase := .reg .X 8, memAddendReg := .reg .X 7, memExtendType := .none,
      memShiftType := .lsl, memAmount := 1 } := by decide

/-- R270: LDRSW X9, [X8, X7, LSL #2]. -/
theorem test_ldrswRegoff_word :
    decodeWord 0b10111000101001110111100100001001#32 = .ldrswRegoff 7 0b011 true 8 9 := by decide

/-- R270: LDRSW X9, [X8, X7, LSL #2]. -/
theorem test_ldrswRegoff_step :
    stepRecord 0xB8A77909 = some {
      mnemonic := .ldrsw, category := some .loadStore, op0Kind := .register, op1Kind := .memory,
      op0Reg := .reg .X 9, memBase := .reg .X 8, memAddendReg := .reg .X 7, memExtendType := .none,
      memShiftType := .lsl, memAmount := 2 } := by decide

/-- R271; R271. -/
theorem test_prfmRegoff_word :
    decodeWord 0b11111000101000000110100000000000#32 = .prfmRegoff ⟨0b10, 0b11, false⟩ 0 0b011 false 0 0 ∧
    decodeWord 0b10111000111000000110100000000000#32 = .prfmRegoff ⟨0b11, 0b10, false⟩ 0 0b011 false 0 0 := by decide

/-- R271: inert with the flag clear, surfaced with it set (R408, R418). -/
theorem test_prfmRegoff_step :
    stepRecord 0xF8A06800 = some { mnemonic := .unimplemented, category := some (.unimpl .prfm) } ∧
    stepError 0xF8A06800 = some (.unimplemented 0xF8A06800 0 (some (.unimpl .prfm))) := by decide

/-- R291: STURB W0, [X1, #-1]. -/
theorem test_sturb_word :
    decodeWord 0b00111000000111111111000000100000#32 = .sturb (-1) 1 0 := by decide

/-- R291: STURB W0, [X1, #-1]. -/
theorem test_sturb_step :
    stepRecord 0x381FF020 = some {
      mnemonic := .sturb, category := some .loadStore, op0Kind := .register, op1Kind := .memory,
      op0Reg := .reg .W 0, memBase := .reg .X 1, memOffset := -1 } := by decide

/-- R292: STURH W0, [X1, #255]. -/
theorem test_sturh_word :
    decodeWord 0b01111000000011111111000000100000#32 = .sturh 255 1 0 := by decide

/-- R292: STURH W0, [X1, #255]. -/
theorem test_sturh_step :
    stepRecord 0x780FF020 = some {
      mnemonic := .sturh, category := some .loadStore, op0Kind := .register, op1Kind := .memory,
      op0Reg := .reg .W 0, memBase := .reg .X 1, memOffset := 255 } := by decide

/-- R293: STUR W0, [X1, #-8]; R293: STUR V0, [X1, #5]. -/
theorem test_stur_word :
    decodeWord 0b10111000000111111000000000100000#32 = .stur ⟨0b00, 0b10, false⟩ (-8) 1 0 ∧
    decodeWord 0b00111100100000000101000000100000#32 = .stur ⟨0b10, 0b00, true⟩ 5 1 0 := by decide

/-- R293: STUR V0, [X1, #5]. -/
theorem test_stur_step :
    stepRecord 0x3C805020 = some {
      mnemonic := .stur, category := some .loadStore, op0Kind := .register, op1Kind := .memory,
      op0Reg := .reg .V 0, memBase := .reg .X 1, memOffset := 5 } := by decide

/-- R294: LDURB W3, [X2, #-16]. -/
theorem test_ldurb_word :
    decodeWord 0b00111000010111110000000001000011#32 = .ldurb (-16) 2 3 := by decide

/-- R294: LDURB W3, [X2, #-16]. -/
theorem test_ldurb_step :
    stepRecord 0x385F0043 = some {
      mnemonic := .ldurb, category := some .loadStore, op0Kind := .register, op1Kind := .memory,
      op0Reg := .reg .W 3, memBase := .reg .X 2, memOffset := -16 } := by decide

/-- R295: LDURH W3, [X2, #16]. -/
theorem test_ldurh_word :
    decodeWord 0b01111000010000010000000001000011#32 = .ldurh 16 2 3 := by decide

/-- R295: LDURH W3, [X2, #16]. -/
theorem test_ldurh_step :
    stepRecord 0x78410043 = some {
      mnemonic := .ldurh, category := some .loadStore, op0Kind := .register, op1Kind := .memory,
      op0Reg := .reg .W 3, memBase := .reg .X 2, memOffset := 16 } := by decide

/-- R296: LDUR X3, [SP]; R296: LDUR V3, [X2, #-1]. -/
theorem test_ldur_word :
    decodeWord 0b11111000010000000000001111100011#32 = .ldur ⟨0b01, 0b11, false⟩ 0 31 3 ∧
    decodeWord 0b00111100110111111111000001000011#32 = .ldur ⟨0b11, 0b00, true⟩ (-1) 2 3 := by decide

/-- R296: LDUR V3, [X2, #-1]. -/
theorem test_ldur_step :
    stepRecord 0x3CDFF043 = some {
      mnemonic := .ldur, category := some .loadStore, op0Kind := .register, op1Kind := .memory,
      op0Reg := .reg .V 3, memBase := .reg .X 2, memOffset := -1 } := by decide

/-- R297: LDURSB X5, [X4, #1]. -/
theorem test_ldursb_word :
    decodeWord 0b00111000100000000001000010000101#32 = .ldursb ⟨0b10, 0b00, false⟩ 1 4 5 := by decide

/-- R297: LDURSB X5, [X4, #1]. -/
theorem test_ldursb_step :
    stepRecord 0x38801085 = some {
      mnemonic := .ldursb, category := some .loadStore, op0Kind := .register, op1Kind := .memory,
      op0Reg := .reg .X 5, memBase := .reg .X 4, memOffset := 1 } := by decide

/-- R298: LDURSH W5, [X4, #2]. -/
theorem test_ldursh_word :
    decodeWord 0b01111000110000000010000010000101#32 = .ldursh ⟨0b11, 0b01, false⟩ 2 4 5 := by decide

/-- R298: LDURSH W5, [X4, #2]. -/
theorem test_ldursh_step :
    stepRecord 0x78C02085 = some {
      mnemonic := .ldursh, category := some .loadStore, op0Kind := .register, op1Kind := .memory,
      op0Reg := .reg .W 5, memBase := .reg .X 4, memOffset := 2 } := by decide

/-- R299: LDURSW X5, [X4, #-2]. -/
theorem test_ldursw_word :
    decodeWord 0b10111000100111111110000010000101#32 = .ldursw (-2) 4 5 := by decide

/-- R299: LDURSW X5, [X4, #-2]. -/
theorem test_ldursw_step :
    stepRecord 0xB89FE085 = some {
      mnemonic := .ldursw, category := some .loadStore, op0Kind := .register, op1Kind := .memory,
      op0Reg := .reg .X 5, memBase := .reg .X 4, memOffset := -2 } := by decide

/-- R300. -/
theorem test_prfum_word :
    decodeWord 0b10111000110000000000000000000000#32 = .prfum 0 0 0 := by decide

/-- R300: inert with the flag clear, surfaced with it set (R408, R418). -/
theorem test_prfum_step :
    stepRecord 0xB8C00000 = some { mnemonic := .unimplemented, category := some (.unimpl .prfum) } ∧
    stepError 0xB8C00000 = some (.unimplemented 0xB8C00000 0 (some (.unimpl .prfum))) := by decide

/-- R321: STRB W0, [X1] by #-1. -/
theorem test_strbPost_word :
    decodeWord 0b00111000000111111111010000100000#32 = .strbPost (-1) 1 0 := by decide

/-- R321: STRB W0, [X1] by #-1. -/
theorem test_strbPost_step :
    stepRecord 0x381FF420 = some {
      mnemonic := .strb, category := some .loadStore, op0Kind := .register, op1Kind := .memory,
      op0Reg := .reg .W 0, memBase := .reg .X 1, memOffset := -1, memMode := .postIndex } := by decide

/-- R322: STRH W0, [X1] by #2. -/
theorem test_strhPost_word :
    decodeWord 0b01111000000000000010010000100000#32 = .strhPost 2 1 0 := by decide

/-- R322: STRH W0, [X1] by #2. -/
theorem test_strhPost_step :
    stepRecord 0x78002420 = some {
      mnemonic := .strh, category := some .loadStore, op0Kind := .register, op1Kind := .memory,
      op0Reg := .reg .W 0, memBase := .reg .X 1, memOffset := 2, memMode := .postIndex } := by decide

/-- R323: STR W0, [SP] by #-4; R323: STR V0, [X1] by #16. -/
theorem test_strPost_word :
    decodeWord 0b10111000000111111100011111100000#32 = .strPost ⟨0b00, 0b10, false⟩ (-4) 31 0 ∧
    decodeWord 0b00111100100000010000010000100000#32 = .strPost ⟨0b10, 0b00, true⟩ 16 1 0 := by decide

/-- R323: STR V0, [X1] by #16. -/
theorem test_strPost_step :
    stepRecord 0x3C810420 = some {
      mnemonic := .str, category := some .loadStore, op0Kind := .register, op1Kind := .memory,
      op0Reg := .reg .V 0, memBase := .reg .X 1, memOffset := 16, memMode := .postIndex } := by decide

/-- R324: LDRB W3, [X2] by #1. -/
theorem test_ldrbPost_word :
    decodeWord 0b00111000010000000001010001000011#32 = .ldrbPost 1 2 3 := by decide

/-- R324: LDRB W3, [X2] by #1. -/
theorem test_ldrbPost_step :
    stepRecord 0x38401443 = some {
      mnemonic := .ldrb, category := some .loadStore, op0Kind := .register, op1Kind := .memory,
      op0Reg := .reg .W 3, memBase := .reg .X 2, memOffset := 1, memMode := .postIndex } := by decide

/-- R325: LDRH W3, [X2] by #2. -/
theorem test_ldrhPost_word :
    decodeWord 0b01111000010000000010010001000011#32 = .ldrhPost 2 2 3 := by decide

/-- R325: LDRH W3, [X2] by #2. -/
theorem test_ldrhPost_step :
    stepRecord 0x78402443 = some {
      mnemonic := .ldrh, category := some .loadStore, op0Kind := .register, op1Kind := .memory,
      op0Reg := .reg .W 3, memBase := .reg .X 2, memOffset := 2, memMode := .postIndex } := by decide

/-- R326: LDR X30, [SP] by #16; R326: LDR V3, [X2] by #-256. -/
theorem test_ldrPost_word :
    decodeWord 0b11111000010000010000011111111110#32 = .ldrPost ⟨0b01, 0b11, false⟩ 16 31 30 ∧
    decodeWord 0b00111100110100000000010001000011#32 = .ldrPost ⟨0b11, 0b00, true⟩ (-256) 2 3 := by decide

/-- R326: LDR V3, [X2] by #-256. -/
theorem test_ldrPost_step :
    stepRecord 0x3CD00443 = some {
      mnemonic := .ldr, category := some .loadStore, op0Kind := .register, op1Kind := .memory,
      op0Reg := .reg .V 3, memBase := .reg .X 2, memOffset := -256, memMode := .postIndex } := by decide

/-- R327: LDRSB X5, [X4] by #1. -/
theorem test_ldrsbPost_word :
    decodeWord 0b00111000100000000001010010000101#32 = .ldrsbPost ⟨0b10, 0b00, false⟩ 1 4 5 := by decide

/-- R327: LDRSB X5, [X4] by #1. -/
theorem test_ldrsbPost_step :
    stepRecord 0x38801485 = some {
      mnemonic := .ldrsb, category := some .loadStore, op0Kind := .register, op1Kind := .memory,
      op0Reg := .reg .X 5, memBase := .reg .X 4, memOffset := 1, memMode := .postIndex } := by decide

/-- R328: LDRSH W5, [X4] by #2. -/
theorem test_ldrshPost_word :
    decodeWord 0b01111000110000000010010010000101#32 = .ldrshPost ⟨0b11, 0b01, false⟩ 2 4 5 := by decide

/-- R328: LDRSH W5, [X4] by #2. -/
theorem test_ldrshPost_step :
    stepRecord 0x78C02485 = some {
      mnemonic := .ldrsh, category := some .loadStore, op0Kind := .register, op1Kind := .memory,
      op0Reg := .reg .W 5, memBase := .reg .X 4, memOffset := 2, memMode := .postIndex } := by decide

/-- R329: LDRSW X5, [X4] by #255. -/
theorem test_ldrswPost_word :
    decodeWord 0b10111000100011111111010010000101#32 = .ldrswPost 255 4 5 := by decide

/-- R329: LDRSW X5, [X4] by #255. -/
theorem test_ldrswPost_step :
    stepRecord 0xB88FF485 = some {
      mnemonic := .ldrsw, category := some .loadStore, op0Kind := .register, op1Kind := .memory,
      op0Reg := .reg .X 5, memBase := .reg .X 4, memOffset := 255, memMode := .postIndex } := by decide

/-- R331: STRB W0, [X1] by #-1. -/
theorem test_strbPre_word :
    decodeWord 0b00111000000111111111110000100000#32 = .strbPre (-1) 1 0 := by decide

/-- R331: STRB W0, [X1] by #-1. -/
theorem test_strbPre_step :
    stepRecord 0x381FFC20 = some {
      mnemonic := .strb, category := some .loadStore, op0Kind := .register, op1Kind := .memory,
      op0Reg := .reg .W 0, memBase := .reg .X 1, memOffset := -1, memMode := .preIndex, memIsPreIndexed := true } := by decide

/-- R332: STRH W0, [X1] by #2. -/
theorem test_strhPre_word :
    decodeWord 0b01111000000000000010110000100000#32 = .strhPre 2 1 0 := by decide

/-- R332: STRH W0, [X1] by #2. -/
theorem test_strhPre_step :
    stepRecord 0x78002C20 = some {
      mnemonic := .strh, category := some .loadStore, op0Kind := .register, op1Kind := .memory,
      op0Reg := .reg .W 0, memBase := .reg .X 1, memOffset := 2, memMode := .preIndex, memIsPreIndexed := true } := by decide

/-- R333: STR W0, [SP] by #-4; R333: STR V0, [X1] by #16. -/
theorem test_strPre_word :
    decodeWord 0b10111000000111111100111111100000#32 = .strPre ⟨0b00, 0b10, false⟩ (-4) 31 0 ∧
    decodeWord 0b00111100100000010000110000100000#32 = .strPre ⟨0b10, 0b00, true⟩ 16 1 0 := by decide

/-- R333: STR V0, [X1] by #16. -/
theorem test_strPre_step :
    stepRecord 0x3C810C20 = some {
      mnemonic := .str, category := some .loadStore, op0Kind := .register, op1Kind := .memory,
      op0Reg := .reg .V 0, memBase := .reg .X 1, memOffset := 16, memMode := .preIndex, memIsPreIndexed := true } := by decide

/-- R334: LDRB W3, [X2] by #1. -/
theorem test_ldrbPre_word :
    decodeWord 0b00111000010000000001110001000011#32 = .ldrbPre 1 2 3 := by decide

/-- R334: LDRB W3, [X2] by #1. -/
theorem test_ldrbPre_step :
    stepRecord 0x38401C43 = some {
      mnemonic := .ldrb, category := some .loadStore, op0Kind := .register, op1Kind := .memory,
      op0Reg := .reg .W 3, memBase := .reg .X 2, memOffset := 1, memMode := .preIndex, memIsPreIndexed := true } := by decide

/-- R335: LDRH W3, [X2] by #2. -/
theorem test_ldrhPre_word :
    decodeWord 0b01111000010000000010110001000011#32 = .ldrhPre 2 2 3 := by decide

/-- R335: LDRH W3, [X2] by #2. -/
theorem test_ldrhPre_step :
    stepRecord 0x78402C43 = some {
      mnemonic := .ldrh, category := some .loadStore, op0Kind := .register, op1Kind := .memory,
      op0Reg := .reg .W 3, memBase := .reg .X 2, memOffset := 2, memMode := .preIndex, memIsPreIndexed := true } := by decide

/-- R336: LDR X30, [SP] by #16; R336: LDR V3, [X2] by #-256. -/
theorem test_ldrPre_word :
    decodeWord 0b11111000010000010000111111111110#32 = .ldrPre ⟨0b01, 0b11, false⟩ 16 31 30 ∧
    decodeWord 0b00111100110100000000110001000011#32 = .ldrPre ⟨0b11, 0b00, true⟩ (-256) 2 3 := by decide

/-- R336: LDR V3, [X2] by #-256. -/
theorem test_ldrPre_step :
    stepRecord 0x3CD00C43 = some {
      mnemonic := .ldr, category := some .loadStore, op0Kind := .register, op1Kind := .memory,
      op0Reg := .reg .V 3, memBase := .reg .X 2, memOffset := -256, memMode := .preIndex, memIsPreIndexed := true } := by decide

/-- R337: LDRSB X5, [X4] by #1. -/
theorem test_ldrsbPre_word :
    decodeWord 0b00111000100000000001110010000101#32 = .ldrsbPre ⟨0b10, 0b00, false⟩ 1 4 5 := by decide

/-- R337: LDRSB X5, [X4] by #1. -/
theorem test_ldrsbPre_step :
    stepRecord 0x38801C85 = some {
      mnemonic := .ldrsb, category := some .loadStore, op0Kind := .register, op1Kind := .memory,
      op0Reg := .reg .X 5, memBase := .reg .X 4, memOffset := 1, memMode := .preIndex, memIsPreIndexed := true } := by decide

/-- R338: LDRSH W5, [X4] by #2. -/
theorem test_ldrshPre_word :
    decodeWord 0b01111000110000000010110010000101#32 = .ldrshPre ⟨0b11, 0b01, false⟩ 2 4 5 := by decide

/-- R338: LDRSH W5, [X4] by #2. -/
theorem test_ldrshPre_step :
    stepRecord 0x78C02C85 = some {
      mnemonic := .ldrsh, category := some .loadStore, op0Kind := .register, op1Kind := .memory,
      op0Reg := .reg .W 5, memBase := .reg .X 4, memOffset := 2, memMode := .preIndex, memIsPreIndexed := true } := by decide

/-- R339: LDRSW X5, [X4] by #255. -/
theorem test_ldrswPre_word :
    decodeWord 0b10111000100011111111110010000101#32 = .ldrswPre 255 4 5 := by decide

/-- R339: LDRSW X5, [X4] by #255. -/
theorem test_ldrswPre_step :
    stepRecord 0xB88FFC85 = some {
      mnemonic := .ldrsw, category := some .loadStore, op0Kind := .register, op1Kind := .memory,
      op0Reg := .reg .X 5, memBase := .reg .X 4, memOffset := 255, memMode := .preIndex, memIsPreIndexed := true } := by decide

/-- R170. -/
theorem test_undefReservedGroup_word :
    decodeWord 0b00000000000000000000000000000000#32 = .undefReservedGroup 0x00000000 ∧
    dispatch 0x00000000 = .undefined .reservedGroup := by decide

/-- R406: the INVALID record, or the error with its word, offset and reason. -/
theorem test_undefReservedGroup_step :
    stepRecord 0x00000000 = some { mnemonic := .invalid } ∧
    stepError 0x00000000 = some (.undefined 0x00000000 0 .reservedGroup) := by decide

/-- T2, R170. -/
theorem test_undefUnallocatedType_word :
    decodeWord 0b00000010000000000000000000000000#32 = .undefUnallocatedType 0x02000000 ∧
    dispatch 0x02000000 = .undefined .unallocatedType := by decide

/-- R406: the INVALID record, or the error with its word, offset and reason. -/
theorem test_undefUnallocatedType_step :
    stepRecord 0x02000000 = some { mnemonic := .invalid } ∧
    stepError 0x02000000 = some (.undefined 0x02000000 0 .unallocatedType) := by decide

/-- R172. -/
theorem test_undefSimdLsStruct_word :
    decodeWord 0b00001100000000010000000000000000#32 = .undefSimdLsStruct 0x0C010000 ∧
    dispatch 0x0C010000 = .undefined .simdLsStruct := by decide

/-- R406: the INVALID record, or the error with its word, offset and reason. -/
theorem test_undefSimdLsStruct_step :
    stepRecord 0x0C010000 = some { mnemonic := .invalid } ∧
    stepError 0x0C010000 = some (.undefined 0x0C010000 0 .simdLsStruct) := by decide

/-- R213. -/
theorem test_undefPairOpc11_word :
    decodeWord 0b11101001000000000000010001000000#32 = .undefPairOpc11 0xE9000440 ∧
    dispatch 0xE9000440 = .undefined .pairOpc11 := by decide

/-- R406: the INVALID record, or the error with its word, offset and reason. -/
theorem test_undefPairOpc11_step :
    stepRecord 0xE9000440 = some { mnemonic := .invalid } ∧
    stepError 0xE9000440 = some (.undefined 0xE9000440 0 .pairOpc11) := by decide

/-- R241, cell (10,11,0). -/
theorem test_undefLsUimmCell_word :
    decodeWord 0b11111001100000000000000000100000#32 = .undefLsUimmCell 0xF9800020 ∧
    dispatch 0xF9800020 = .undefined .lsUimmCell := by decide

/-- R406: the INVALID record, or the error with its word, offset and reason. -/
theorem test_undefLsUimmCell_step :
    stepRecord 0xF9800020 = some { mnemonic := .invalid } ∧
    stepError 0xF9800020 = some (.undefined 0xF9800020 0 .lsUimmCell) := by decide

/-- R272, cell (10,11,1). -/
theorem test_undefLsRegoffCell_word :
    decodeWord 0b11111100101000000110100000000000#32 = .undefLsRegoffCell 0xFCA06800 ∧
    dispatch 0xFCA06800 = .undefined .lsRegoffCell := by decide

/-- R406: the INVALID record, or the error with its word, offset and reason. -/
theorem test_undefLsRegoffCell_step :
    stepRecord 0xFCA06800 = some { mnemonic := .invalid } ∧
    stepError 0xFCA06800 = some (.undefined 0xFCA06800 0 .lsRegoffCell) := by decide

/-- R301, cell (10,11,0). -/
theorem test_undefLsUnscaledCell_word :
    decodeWord 0b11111000100000000000000000000000#32 = .undefLsUnscaledCell 0xF8800000 ∧
    dispatch 0xF8800000 = .undefined .lsUnscaledCell := by decide

/-- R406: the INVALID record, or the error with its word, offset and reason. -/
theorem test_undefLsUnscaledCell_step :
    stepRecord 0xF8800000 = some { mnemonic := .invalid } ∧
    stepError 0xF8800000 = some (.undefined 0xF8800000 0 .lsUnscaledCell) := by decide

/-- R340, cell (11,10,0). -/
theorem test_undefLsIndexedCell_word :
    decodeWord 0b10111000110000000000010000000000#32 = .undefLsIndexedCell 0xB8C00400 ∧
    dispatch 0xB8C00400 = .undefined .lsIndexedCell := by decide

/-- R406: the INVALID record, or the error with its word, offset and reason. -/
theorem test_undefLsIndexedCell_step :
    stepRecord 0xB8C00400 = some { mnemonic := .invalid } ∧
    stepError 0xB8C00400 = some (.undefined 0xB8C00400 0 .lsIndexedCell) := by decide

/-- R170. -/
theorem test_unimplSme_word :
    decodeWord 0b10000000000000000000000000000000#32 = .unimplSme 0x80000000 ∧
    dispatch 0x80000000 = .unimplemented .sme := by decide

/-- R408, R418: the UNIMPLEMENTED record, or the error with its word, offset and category. -/
theorem test_unimplSme_step :
    stepRecord 0x80000000 = some { mnemonic := .unimplemented, category := some (.unimpl .sme) } ∧
    stepError 0x80000000 = some (.unimplemented 0x80000000 0 (some (.unimpl .sme))) := by decide

/-- R171. -/
theorem test_unimplMemoryTags_word :
    decodeWord 0b11011001001000000000000000000000#32 = .unimplMemoryTags 0xD9200000 ∧
    dispatch 0xD9200000 = .unimplemented .memoryTags := by decide

/-- R408, R418: the UNIMPLEMENTED record, or the error with its word, offset and category. -/
theorem test_unimplMemoryTags_step :
    stepRecord 0xD9200000 = some { mnemonic := .unimplemented, category := some (.unimpl .memoryTags) } ∧
    stepError 0xD9200000 = some (.unimplemented 0xD9200000 0 (some (.unimpl .memoryTags))) := by decide

/-- R171. -/
theorem test_unimplExclusivePair_word :
    decodeWord 0b11001000010111110111110000000000#32 = .unimplExclusivePair 0xC85F7C00 ∧
    dispatch 0xC85F7C00 = .unimplemented .exclusivePair := by decide

/-- R408, R418: the UNIMPLEMENTED record, or the error with its word, offset and category. -/
theorem test_unimplExclusivePair_step :
    stepRecord 0xC85F7C00 = some { mnemonic := .unimplemented, category := some (.unimpl .exclusivePair) } ∧
    stepError 0xC85F7C00 = some (.unimplemented 0xC85F7C00 0 (some (.unimpl .exclusivePair))) := by decide

/-- R171. -/
theorem test_unimplLdaprLiteralMemcpy_word :
    decodeWord 0b01011000000000000000000000000000#32 = .unimplLdaprLiteralMemcpy 0x58000000 ∧
    dispatch 0x58000000 = .unimplemented .ldaprLiteralMemcpy := by decide

/-- R408, R418: the UNIMPLEMENTED record, or the error with its word, offset and category. -/
theorem test_unimplLdaprLiteralMemcpy_step :
    stepRecord 0x58000000 = some { mnemonic := .unimplemented, category := some (.unimpl .ldaprLiteralMemcpy) } ∧
    stepError 0x58000000 = some (.unimplemented 0x58000000 0 (some (.unimpl .ldaprLiteralMemcpy))) := by decide

/-- R173. -/
theorem test_unimplNoallocPair_word :
    decodeWord 0b10101000000000000000010001000000#32 = .unimplNoallocPair 0xA8000440 ∧
    dispatch 0xA8000440 = .unimplemented .noallocPair := by decide

/-- R408, R418: the UNIMPLEMENTED record, or the error with its word, offset and category. -/
theorem test_unimplNoallocPair_step :
    stepRecord 0xA8000440 = some { mnemonic := .unimplemented, category := some (.unimpl .noallocPair) } ∧
    stepError 0xA8000440 = some (.unimplemented 0xA8000440 0 (some (.unimpl .noallocPair))) := by decide

/-- R174. -/
theorem test_unimplAtomic_word :
    decodeWord 0b11111000001000000000000000000000#32 = .unimplAtomic 0xF8200000 ∧
    dispatch 0xF8200000 = .unimplemented .atomic := by decide

/-- R408, R418: the UNIMPLEMENTED record, or the error with its word, offset and category. -/
theorem test_unimplAtomic_step :
    stepRecord 0xF8200000 = some { mnemonic := .unimplemented, category := some (.unimpl .atomic) } ∧
    stepError 0xF8200000 = some (.unimplemented 0xF8200000 0 (some (.unimpl .atomic))) := by decide

/-- R174. -/
theorem test_unimplPac_word :
    decodeWord 0b11111000001000000000010000000000#32 = .unimplPac 0xF8200400 ∧
    dispatch 0xF8200400 = .unimplemented .pac := by decide

/-- R408, R418: the UNIMPLEMENTED record, or the error with its word, offset and category. -/
theorem test_unimplPac_step :
    stepRecord 0xF8200400 = some { mnemonic := .unimplemented, category := some (.unimpl .pac) } ∧
    stepError 0xF8200400 = some (.unimplemented 0xF8200400 0 (some (.unimpl .pac))) := by decide

/-- R174. -/
theorem test_unimplUnprivileged_word :
    decodeWord 0b11111000010000000000100000000000#32 = .unimplUnprivileged 0xF8400800 ∧
    dispatch 0xF8400800 = .unimplemented .unprivileged := by decide

/-- R408, R418: the UNIMPLEMENTED record, or the error with its word, offset and category. -/
theorem test_unimplUnprivileged_step :
    stepRecord 0xF8400800 = some { mnemonic := .unimplemented, category := some (.unimpl .unprivileged) } ∧
    stepError 0xF8400800 = some (.unimplemented 0xF8400800 0 (some (.unimpl .unprivileged))) := by decide

/-- T2. -/
theorem test_delegateSve_word :
    decodeWord 0b00000100000000000000000000000000#32 = .delegateSve 0x04000000 ∧
    dispatch 0x04000000 = .delegate .sve := by decide

/-- T2. -/
theorem test_delegateDpi_word :
    decodeWord 0b00010010000000000000000000000000#32 = .delegateDpi 0x12000000 ∧
    dispatch 0x12000000 = .delegate .dpi := by decide

/-- R170. -/
theorem test_delegateBes_word :
    decodeWord 0b11010101000000110010000000011111#32 = .delegateBes 0xD503201F ∧
    dispatch 0xD503201F = .delegate .bes := by decide

/-- T2. -/
theorem test_delegateDpr_word :
    decodeWord 0b00011010000000000000000000000000#32 = .delegateDpr 0x1A000000 ∧
    dispatch 0x1A000000 = .delegate .dpr := by decide

/-- T2. -/
theorem test_delegateSimd_word :
    decodeWord 0b01111110000000000000000000000000#32 = .delegateSimd 0x7E000000 ∧
    dispatch 0x7E000000 = .delegate .simd := by decide

/-- R172. -/
theorem test_delegateSimdLsSingle_word :
    decodeWord 0b00001101010000000000000000000000#32 = .delegateSimdLsSingle 0x0D400000 ∧
    dispatch 0x0D400000 = .delegate .simdLsSingle := by decide

/-- R172. -/
theorem test_delegateSimdLsSinglePost_word :
    decodeWord 0b00001101110111110000000000000000#32 = .delegateSimdLsSinglePost 0x0DDF0000 ∧
    dispatch 0x0DDF0000 = .delegate .simdLsSinglePost := by decide

/-- The unreachable arm's own meaning (R402, log entry 14). -/
theorem test_unimplExclOrderedCas_exec :
    exec (.unimplExclOrderedCas 0) (placed strict 0) =
      .next ((placed strict 0).surfaced (.unimplemented 0 0 (some (.unimpl .exclOrderedCas)))) := rfl

/-! ### The sequencer: one step -/

/-- A buffer of 6 bytes: Structural before any word (R83, T13). -/
theorem test_structural_step :
    step (State.start .eager [0, 0, 0, 0, 0, 0] 0 strict) =
      .next { State.start .eager [0, 0, 0, 0, 0, 0] 0 strict with
        status := .failed (.structural 6), reply := some (.error (.structural 6)) } := rfl

/-- An empty buffer is legal and gives no record (R83); this is the step from reset. -/
theorem test_reset_step :
    step State.reset = .next { State.reset with status := .done, reply := some (.returned [] 0) } := rfl

/-- The address wraps at 2^64: the word at offset 8 of a stream at T12's `va` is stamped 0 and handed over (R84, R93). -/
theorem test_address_wraps :
    step { State.start .lazy (List.replicate 12 0) 0xFFFFFFFFFFFFFFF8 lenient with i := 8 } =
      .next { State.start .lazy (List.replicate 12 0) 0xFFFFFFFFFFFFFFF8 lenient with
        i := 12, out := [{ mnemonic := .invalid, address := 0 }]
        reply := some (.item { mnemonic := .invalid, address := 0 }) } := rfl

/-- A surfaced error discards an eager call's records (R92) and keeps a stream's (R93). -/
theorem test_surface_out :
    ((State.start .eager [] 0 strict).append Record.empty).surface (.structural 1) =
      { State.start .eager [] 0 strict with
        i := 4, status := .failed (.structural 1), reply := some (.error (.structural 1)) } ∧
    (((State.start .lazy [] 0 strict).append Record.empty).surface (.structural 1)).out = [Record.empty] := by decide

/-! ### Witnesses: what meets the hypotheses of each statement that has some -/

/-- A call of two words, `LDR X1, [X0, #8]` and a word of the reserved group. -/
def twoWords : List Byte := [0x01, 0x04, 0x40, 0xF9, 0x00, 0x00, 0x00, 0x00]

/-- The record of `LDR X1, [X0, #8]` at the address `a` (R236). -/
def ldrRecord (a : Addr) : Record := { singleRec .ldr .X 8 .offset 0 1 with address := a }

/-- The lenient call on `twoWords`, after its first word. -/
def midCall : State := { State.start .eager twoWords 0x1000 lenient with i := 4, out := [ldrRecord 0x1000] }

/-- The records of the lenient call on `twoWords` at 0x1000. -/
def twoRecords : List Record := [ldrRecord 0x1000, { mnemonic := .invalid, address := 0x1004 }]

/-- StpRecords, LdpRecords: each of the five cells. -/
theorem test_witness_pairRows :
    (0b00, false, Family.W, 4) ∈ pairRows ∧ (0b00, true, Family.S, 4) ∈ pairRows ∧ (0b01, true, Family.D, 8) ∈ pairRows ∧
      (0b10, false, Family.X, 8) ∈ pairRows ∧ (0b10, true, Family.V, 16) ∈ pairRows := by decide

/-- UnsignedImmediateStores, Loads and SignedLoads: a first and a last row of their lists. -/
theorem test_witness_uimmRows :
    (0b1011100100#10, (⟨0b00, 0b10, false⟩ : Cell), Family.W, (2 : Fin 5)) ∈ strUimmRows ∧
    (0b0011110110#10, (⟨0b10, 0b00, true⟩ : Cell), Family.V, (0 : Fin 5)) ∈ strUimmRows ∧
    (0b1011100101#10, (⟨0b01, 0b10, false⟩ : Cell), Family.W, (2 : Fin 5)) ∈ ldrUimmRows ∧
    (0b0011110111#10, (⟨0b11, 0b00, true⟩ : Cell), Family.V, (0 : Fin 5)) ∈ ldrUimmRows ∧
    (0b0011100110#10, (⟨0b10, 0b00, false⟩ : Cell), Family.X, (0 : Fin 5)) ∈ ldrsbUimmRows ∧
    (0b0111100111#10, (⟨0b11, 0b01, false⟩ : Cell), Family.W, (1 : Fin 5)) ∈ ldrshUimmRows := by
  simp [ldrUimmRows, ldrsbUimmRows, ldrshUimmRows, strUimmRows]

/-- RegisterOffset-, Unscaled-, PostIndexed- and PreIndexedStores, -Loads and -SignedLoads: a first and a last row. -/
theorem test_witness_rows :
    (0b1011100000#10, (⟨0b00, 0b10, false⟩ : Cell), Family.W, (2 : Fin 5)) ∈ strRows ∧
    (0b0011110010#10, (⟨0b10, 0b00, true⟩ : Cell), Family.V, (0 : Fin 5)) ∈ strRows ∧
    (0b1011100001#10, (⟨0b01, 0b10, false⟩ : Cell), Family.W, (2 : Fin 5)) ∈ ldrRows ∧
    (0b0011110011#10, (⟨0b11, 0b00, true⟩ : Cell), Family.V, (4 : Fin 5)) ∈ ldrRows ∧
    (0b0011100010#10, (⟨0b10, 0b00, false⟩ : Cell), Family.X, (0 : Fin 5)) ∈ ldrsbRows ∧
    (0b0111100011#10, (⟨0b11, 0b01, false⟩ : Cell), Family.W, (1 : Fin 5)) ∈ ldrshRows := by
  simp [ldrRows, ldrsbRows, ldrshRows, strRows]

/-- UndefinedWordsBecomeInvalidRecords. -/
theorem test_witness_UndefinedWordsBecomeInvalidRecords :
    (placed lenient 0).flags.continueOnError = true := rfl

/-- UndefinedWordsAreSurfaced. -/
theorem test_witness_UndefinedWordsAreSurfaced :
    (placed strict 0).flags.continueOnError = false := rfl

/-- UnimplementedWordsBecomeInertRecords. -/
theorem test_witness_UnimplementedWordsBecomeInertRecords :
    (placed lenient 0).flags.throwOnUnimplemented = false := rfl

/-- UnimplementedWordsAreSurfaced: the flag, and both PRFM cells of the register-offset form. -/
theorem test_witness_UnimplementedWordsAreSurfaced :
    (placed strict 0).flags.throwOnUnimplemented = true ∧
      ((0b1111100010#10 = 0b1111100010#10 ∧ (⟨0b10, 0b11, false⟩ : Cell) = ⟨0b10, 0b11, false⟩) ∧
        (0b1011100011#10 = 0b1011100011#10 ∧ (⟨0b11, 0b10, false⟩ : Cell) = ⟨0b11, 0b10, false⟩)) := by decide

/-- DelegatedWordsComplete. -/
theorem test_witness_DelegatedWordsComplete :
    (placed lenient 0).flags.continueOnError = true ∧ (placed lenient 0).flags.throwOnUnimplemented = false := by decide

/-- OkRecordsOfTheCore: a word of each of its three forms. -/
theorem test_witness_OkRecordsOfTheCore :
    dispatch 0xF9400401 = .ok (singleRec .ldr .X 8 .offset 0 1) ∧
      dispatch 0xA9BF7BFD = .ok (pairRec .stp .X 8 .preIndex 0b1111110 30 31 29) ∧ fOp0Low 0xA9BF7BFD = 0b10 ∧
      dispatch 0x38604820 = .ok (regoffRec .ldrb .W 0 0 0b010 false 1 0) ∧ fOp0Low 0x38604820 = 0b11 ∧
      fOp2h 0x38604820 = false ∧ fB21 0x38604820 = true ∧ fOp0Low 0xF9400401 = 0b11 ∧ fOp2h 0xF9400401 = true := by decide

/-- StepRunsTheDecodedInstruction, at offset 0 of a call that is running and unwritten. -/
theorem test_witness_StepRunsTheDecodedInstruction :
    (State.start .eager twoWords 0 lenient).mem.len % 4 = 0 ∧ (State.start .eager twoWords 0 lenient).mem.read 0 = some 0x01 ∧
      (State.start .eager twoWords 0 lenient).mem.read 1 = some 0x04 ∧
      (State.start .eager twoWords 0 lenient).mem.read 2 = some 0x40 ∧
      (State.start .eager twoWords 0 lenient).mem.read 3 = some 0xF9 ∧
      decodeBytes [0x01, 0x04, 0x40, 0xF9] = .ok (.ldrUimm ⟨0b01, 0b11, false⟩ 1 0 1, []) := by decide

/-- StepRunsTheDecodedInstruction, at the last word of the buffer. -/
theorem test_witness_StepRunsTheDecodedInstruction_last_word :
    midCall.bufWritten = false ∧ midCall.status = .running ∧ midCall.i % 4 = 0 ∧
      midCall.mem.read (midCall.i + 3) = some 0x00 ∧
      midCall.mem.read (midCall.i + 4) = none ∧
      decodeBytes [0x00, 0x00, 0x00, 0x00] = .ok (.undefReservedGroup 0, []) := by decide

/-- StepWritesOnlySequencerState. -/
theorem test_witness_StepWritesOnlySequencerState :
    step State.reset = .next State.reset.finish := rfl

/-- StructuralErrorComesFirst: lengths 1, 3 and 5. -/
theorem test_witness_StructuralErrorComesFirst :
    ([0] : List Byte).length % 4 ≠ 0 ∧ ([0, 0, 0] : List Byte).length % 4 ≠ 0 ∧
      ([0, 0, 0, 0, 0] : List Byte).length % 4 ≠ 0 := by decide

/-- EndOfWordsAndAfter: a state for each of its three clauses. -/
theorem test_witness_EndOfWordsAndAfter :
    State.reset.bufWritten = false ∧
      (State.reset.status = .running ∧ State.reset.i = State.reset.mem.len ∧ State.reset.mem.len % 4 = 0) ∧
      ((State.start .lazy [] 0 strict).finish.status ≠ .running ∧
        (State.start .lazy [] 0 strict).finish.shape = .lazy) ∧
      (State.reset.finish.status ≠ .running ∧ State.reset.finish.shape = .eager) := by decide

/-- WrittenBufferIsRefused: the last byte of a running call, a stream that has ended, an eager call that has ended. -/
theorem test_witness_WrittenBufferIsRefused :
    midCall.mem.wf = true ∧ 7 < midCall.mem.len ∧ midCall.status = .running ∧
      ((State.start .lazy [1] 0 strict).surface (.structural 1)).shape = .lazy ∧
      0 < (State.start .lazy [1] 0 strict).mem.len ∧
      ((State.start .eager [1] 0 strict).surface (.structural 1)).status ≠ .running ∧
      ((State.start .eager [1] 0 strict).surface (.structural 1)).bufWritten = false := by decide

/-- The invariant in the middle of a call (EveryStepKeepsTheCallInvariant, NoStopFromInvariantStates, CallsEnd). -/
theorem test_witness_callInvariant :
    midCall.Inv ∧ midCall.bufWritten = false ∧ midCall.status = .running ∧ ∃ t, step midCall = .next t :=
  ⟨{ memWf := by decide, aligned := by decide, inBuffer := by decide, checked := by decide,
     oneRecordPerWord := .inl (by decide)
     addresses := by
      intro k r h
      rcases k with _ | k
      · cases h; decide
      · simp [midCall] at h
     preIndexLaw := by
      intro k r h
      rcases k with _ | k
      · cases h; decide
      · simp [midCall] at h
     doneAtEnd := by decide }, rfl, rfl, _, rfl⟩

/-- LazyStreamAgreesWithEagerCall (first clause), AddressLawOfCalls, RecordDependsOnItsOwnWordAlone. -/
theorem test_witness_seqCall_ok :
    seqCall twoWords 0x1000 lenient = .ok (twoRecords, 0x1000) := by rfl

/-- PartitionLaw: inside the buffer and at both ends. -/
theorem test_witness_PartitionLaw :
    seqCall twoWords 0x1000 lenient = .ok (twoRecords, 0x1000) ∧ (4 % 4 = 0 ∧ 4 ≤ twoWords.length) ∧
      (0 % 4 = 0 ∧ 0 ≤ twoWords.length) ∧ (8 % 4 = 0 ∧ 8 ≤ twoWords.length) := ⟨rfl, by decide⟩

/-- LazyStreamAgreesWithEagerCall (second clause), FirstFailingWordEndsTheCall,
RestartAfterAFailedCall: the error at the last word, two steps on. -/
theorem test_witness_seqCall_error :
    seqCall twoWords 0x1000 strict = .error (.undefined 0 4 .reservedGroup) ∧
      (CallError.undefined 0 4 .reservedGroup).offset = some 4 ∧
      twoWords.length % 4 = 0 ∧ 4 / 4 < 2 := ⟨rfl, rfl, rfl, by decide⟩

/-- LazyStreamAgreesWithEagerCall (third clause). -/
theorem test_witness_seqCall_structural :
    seqCall [0, 0, 0, 0, 0] 0x1000 strict = .error (.structural 5) ∧ (CallError.structural 5).offset = none := ⟨rfl, rfl⟩

/-- RecordDependsOnItsOwnWordAlone: two buffers that agree on word 0 and differ on word 1. -/
theorem test_witness_RecordDependsOnItsOwnWordAlone :
    seqCall (twoWords.take 4 ++ [0, 0, 0, 0x80]) 0x1000 lenient =
        .ok ([ldrRecord 0x1000, { mnemonic := .unimplemented, category := some (.unimpl .sme), address := 0x1004 }], 0x1000) ∧
      ∀ j, j < 4 → twoWords[4 * 0 + j]? = (twoWords.take 4 ++ [0, 0, 0, 0x80])[4 * 0 + j]? := ⟨rfl, by decide⟩

/-- SignExtenderArithmetic at both ends of N, and the sign-extender at 7 and 9 bits (R118, R120). -/
theorem test_witness_SignExtenderArithmetic :
    (1 ≤ 1 ∧ 1 ≤ 64 ∧ sext 1 1 = -1 ∧ sext 1 2 = 0) ∧ (1 ≤ 64 ∧ 64 ≤ 64 ∧ sext 64 0x8000000000000000 = 0x8000000000000000) ∧
      sext 7 0x40 = -64 ∧ sext 9 0xFF = 255 := by decide

/-- OffsetsAreExactAndInRange: the ends of every range, as R118 to R120 give them. -/
theorem test_witness_OffsetsAreExactAndInRange :
    (pairOffset 0b1000000 32).toInt = -256 ∧ (pairOffset 0b0111111 32).toInt = 252 ∧ (pairOffset 0b1000000 64).toInt = -512 ∧
      (pairOffset 0b0111111 64).toInt = 504 ∧ (pairOffset 0b1000000 128).toInt = -1024 ∧
      (pairOffset 0b0111111 128).toInt = 1008 ∧ (uimmOffset 0xFFF 3).toInt = 32760 ∧ (uimmOffset 0xFFF 0).toInt = 4095 ∧
      (imm9Offset 0x100).toInt = -256 ∧ (imm9Offset 0x0FF).toInt = 255 := by decide

/-- RegisterCodesAreDense: equal codes, and the largest code. -/
theorem test_witness_RegisterCodesAreDense :
    (RegId.reg .X 0).code = (RegId.reg .X 0).code ∧ (256 : Nat) ≤ 256 ∧ (RegId.reg .SP 31).code = 256 := by decide

/-- OutputCodesAreDistinct: the codes where its hypotheses meet. -/
theorem test_witness_OutputCodesAreDistinct :
    Mnemonic.prfum.code < 64 ∧ (Mnemonic.collab 0).code = 64 ∧ UndefReason.reservedGroup.code = some 1 ∧
      UnimplKind.prfum.code = some 11 := by decide

/-- DecodeOfEncode: well-formed instructions of every format, at the ends of their operands. -/
theorem test_witness_DecodeOfEncode :
    Instr.wf (.stpPre 0b10 true 0b1111111 31 31 31) = true ∧ Instr.wf (.strUimm ⟨0b10, 0b00, true⟩ 0xFFF 31 31) = true ∧
      Instr.wf (.prfmRegoff ⟨0b10, 0b11, false⟩ 31 0b111 true 31 31) = true ∧
      Instr.wf (.ldur ⟨0b11, 0b00, true⟩ 0x1FF 31 31) = true ∧ Instr.wf (.ldrswPre 0x1FF 31 31) = true ∧
      Instr.wf (.undefLsIndexedCell 0xB8C00C00) = true ∧ Instr.wf (.delegateSimd 0x7E000000) = true := by decide

/-- OpcodeTableRowsAgreeWithTheCore: a row and a word that matches it. -/
theorem test_witness_OpcodeTableRows :
    ∃ row ∈ opcodeTable, row.Matches 0x04000001 ∧ row.outcome = .delegate .sve := 
  ⟨rowD 0x1E000000 0x04000000 .sve, by decide, rfl, rfl⟩

/-- `withFetchWord` places the word where the step fetches. -/
theorem test_witness_fetch_word_placed :
    (placed strict 0xF9400401).fetch = .ok 0xF9400401 ∧
      (placed strict 0xF9400401).i = 0 ∧ (placed strict 0xF9400401).mem.len = 4 := ⟨rfl, by decide⟩

end Sys2Proof.Tests
end

/-! The register codes (spec/10_state.md R32), the values at the start of a call and the flag register (R51, R54), and the
codes of the output bus (R42–R45, R401, R402). -/

namespace Sys2Proof.Machine
open Sys2Proof

/-! ### Register codes (R32) -/

/-- The nine bits of the field hold every register code: none wraps. -/
theorem RegId.code_reg_toNat (f : Family) (n : RegIx) : (RegId.reg f n).code.toNat = f.base + n.toNat := by
  have hb : f.base ≤ 225 := by cases f <;> decide
  have hn := n.isLt
  rw [RegId.code, BitVec.toNat_ofNat, Nat.mod_eq_of_lt (by omega)]

/-- The family whose block of 32 codes holds `c`; the blocks stand in the order of R32's table. -/
def Family.ofCode (c : Nat) : Family :=
  if c < 33 then .X else if c < 65 then .W else if c < 97 then .V else if c < 129 then .B
  else if c < 161 then .H else if c < 193 then .S else if c < 225 then .D else .SP

/-- The register identity that a code stands for. -/
def RegId.ofCode (c : Nat) : RegId :=
  if c = 0 then .none else .reg (Family.ofCode c) (BitVec.ofNat 5 (c - (Family.ofCode c).base))

theorem Family.ofCode_base_add (f : Family) {k : Nat} (hk : k < 32) : Family.ofCode (f.base + k) = f := by
  cases f <;> simp only [Family.ofCode, Family.base] <;> grind

theorem Family.ofCode_block {c : Nat} (h1 : 1 ≤ c) (h2 : c ≤ 256) :
    (Family.ofCode c).base ≤ c ∧ c - (Family.ofCode c).base < 32 := by
  unfold Family.ofCode
  repeat' split
  all_goals simp only [Family.base]; omega

/-- A register identity can be read back from its code. -/
theorem RegId.ofCode_code (a : RegId) : RegId.ofCode a.code.toNat = a := by
  cases a with
  | none => rfl
  | reg f n =>
    have hpos : f.base + n.toNat ≠ 0 := by cases f <;> simp [Family.base]
    rw [RegId.code_reg_toNat, RegId.ofCode, if_neg hpos, Family.ofCode_base_add f n.isLt, Nat.add_sub_cancel_left,
      BitVec.ofNat_toNat, BitVec.setWidth_eq]

/-- Every number of the enumeration is the code of the identity it stands for. -/
theorem RegId.code_ofCode {c : Nat} (hc : c ≤ 256) : (RegId.ofCode c).code.toNat = c := by
  unfold RegId.ofCode
  split
  · next h0 => exact h0.symm
  · next h0 =>
    obtain ⟨hle, hlt⟩ := Family.ofCode_block (by omega : 1 ≤ c) hc
    rw [RegId.code_reg_toNat, BitVec.toNat_ofNat, Nat.mod_eq_of_lt hlt]
    omega

theorem RegId.code_injective : Function.Injective RegId.code :=
  fun a b h => by rw [← RegId.ofCode_code a, h, RegId.ofCode_code]

/-- Settles O49: `RegId.ofCode` inverts the enumeration on both sides. -/
theorem registerCodesAreDense : Obligations.RegisterCodesAreDense :=
  ⟨fun n => ⟨RegId.code_reg_toNat .X n, RegId.code_reg_toNat .W n, RegId.code_reg_toNat .V n,
      RegId.code_reg_toNat .B n, RegId.code_reg_toNat .H n, RegId.code_reg_toNat .S n, RegId.code_reg_toNat .D n,
      RegId.code_reg_toNat .SP n⟩,
    rfl, fun _ _ h => RegId.code_injective h, fun c hc => ⟨RegId.ofCode c, RegId.code_ofCode hc⟩⟩

/-! ### The start of a call and the flags (R51, R54) -/

/-- Settles O48, from the fields of `State.start`; the buffer reads as the caller's bytes. -/
theorem startOfCallValues : Obligations.StartOfCallValues := by
  intro shape bs va remap cont throwU
  exact ⟨rfl, rfl, rfl, rfl, fun a => Memory.read_ofBytes bs a, rfl, rfl, rfl⟩

/-- Each flag stands at its bit of the control register (R51). -/
theorem Flags.toBits_getLsbD (f : Flags) :
    f.toBits.getLsbD 0 = f.remapAliases ∧ f.toBits.getLsbD 1 = f.continueOnError ∧
      f.toBits.getLsbD 2 = f.throwOnUnimplemented := by
  obtain ⟨remap, cont, throwU⟩ := f
  cases remap <;> cases cont <;> cases throwU <;> decide

theorem Flags.ofBits_toBits (f : Flags) : Flags.ofBits f.toBits = f := by
  obtain ⟨h0, h1, h2⟩ := f.toBits_getLsbD
  rw [Flags.ofBits, h0, h1, h2]

theorem Flags.toBits_ofBits : ∀ b : BitVec 3, (Flags.ofBits b).toBits = b := by decide

/-- Settles O50. -/
theorem flagRegisterBits : Obligations.FlagRegisterBits :=
  ⟨fun f =>
    have ⟨h0, h1, h2⟩ := f.toBits_getLsbD
    ⟨h0, h1, h2, f.ofBits_toBits⟩,
    Flags.toBits_ofBits, rfl⟩

/-! ### The codes of the output bus (R42–R45, R401, R402)

Each enumeration has a table of the spec's values in the order of their codes, and a value is read back from its code at
that place of the table; so two values with one code are equal. -/

/-- The operand kinds of R42. -/
def OpKind.table : List OpKind :=
  [.none, .register, .immediate, .memory, .floatImmediate, .shiftedImmediate, .condition, .pageRelative]

/-- The modes of R43. -/
def MemMode.table : List MemMode := [.offset, .preIndex, .postIndex]

/-- The mnemonics of R44. -/
def Mnemonic.table : List Mnemonic :=
  [.invalid, .unimplemented, .str, .ldr, .strb, .ldrb, .strh, .ldrh, .ldrsb, .ldrsh, .ldrsw,
   .stur, .ldur, .sturb, .sturh, .ldurb, .ldurh, .ldursb, .ldursh, .ldursw,
   .stp, .ldp, .stgp, .ldpsw, .prfm, .prfum]

/-- The shifts of R45. -/
def Shift.table : List Shift := [.none, .lsl, .lsr, .asr, .ror]

/-- The Undefined reasons of R401; the code of the first is 1. -/
def UndefReason.table : List UndefReason :=
  [.reservedGroup, .unallocatedType, .simdLsStruct, .pairOpc11, .lsUimmCell, .lsRegoffCell, .lsUnscaledCell,
   .lsIndexedCell]

/-- The Unimplemented kinds of R402; the code of the first is 1. -/
def UnimplKind.table : List UnimplKind :=
  [.sme, .memoryTags, .exclusivePair, .exclOrderedCas, .ldaprLiteralMemcpy, .noallocPair, .atomic, .pac,
   .unprivileged, .prfm, .prfum]

/-- The value of a code: the table's, and from the table's end on the one `other` gives. -/
def ofCode {α : Type} (table : List α) (other : Nat → α) (c : Nat) : α := table[c]?.getD (other c)

theorem ofCode_of_length_le {α : Type} {table : List α} {c : Nat} (h : table.length ≤ c) (other : Nat → α) :
    ofCode table other c = other c := by
  rw [ofCode, List.getElem?_eq_none h, Option.getD_none]

theorem OpKind.ofCode_code : Function.LeftInverse (ofCode OpKind.table fun c => .collab (c - 8)) OpKind.code := by
  intro k
  cases k with
  | collab j =>
    rw [ofCode_of_length_le (Nat.le_add_right 8 j)]
    exact congrArg OpKind.collab (Nat.add_sub_cancel_left 8 j)
  | _ => rfl

theorem MemMode.ofCode_code : Function.LeftInverse (ofCode MemMode.table fun _ => .offset) MemMode.code := by
  intro m
  cases m <;> rfl

theorem Mnemonic.ofCode_code : Function.LeftInverse (ofCode Mnemonic.table fun c => .collab (c - 64)) Mnemonic.code := by
  intro m
  cases m with
  | collab k =>
    have hlen : Mnemonic.table.length ≤ 64 + k := Nat.le_trans (by decide) (Nat.le_add_right 64 k)
    rw [Mnemonic.code, ofCode_of_length_le hlen, Nat.add_sub_cancel_left]
  | _ => rfl

/-- The extend type of a code of R45. -/
def Ext.ofCode (c : BitVec 4) : Ext := if c = 8 then .none else .ext (c.setWidth 3)

theorem Ext.ofCode_code : Function.LeftInverse Ext.ofCode Ext.code := by
  intro e
  cases e with
  | none => rfl
  | ext c => revert c; decide

theorem Shift.ofCode_code : Function.LeftInverse (ofCode Shift.table fun _ => .none) Shift.code := by
  intro s
  cases s <;> rfl

theorem UndefReason.table_of_code {a : UndefReason} {n : Nat} (h : a.code = some n) :
    UndefReason.table[n - 1]? = some a := by
  cases a <;> cases h <;> rfl

theorem UnimplKind.table_of_code {a : UnimplKind} {n : Nat} (h : a.code = some n) :
    UnimplKind.table[n - 1]? = some a := by
  cases a <;> cases h <;> rfl

/-- From 8 on stand the operand kinds of the collaborators alone (log entry 9). -/
theorem OpKind.eight_le_code_iff (k : OpKind) : 8 ≤ k.code ↔ ∃ j : Nat, k = .collab j := by
  cases k <;> simp [OpKind.code]

/-- From 64 on stand the mnemonics of the collaborators alone (R44). -/
theorem Mnemonic.sixtyFour_le_code_iff (m : Mnemonic) : 64 ≤ m.code ↔ ∃ k : Nat, m = .collab k := by
  cases m <;> simp [Mnemonic.code]

/-- No mnemonic has a code between this unit's last, 25, and the collaborators' first, 64. -/
theorem Mnemonic.code_lt_of_lt (m : Mnemonic) (h : m.code < 64) : m.code < 26 := by
  cases m with
  | collab k => exact absurd h (Nat.not_lt.mpr (Nat.le_add_right 64 k))
  | _ => decide

theorem Ext.ext_code_toNat (c : BitVec 3) : (Ext.ext c).code.toNat = c.toNat :=
  BitVec.toNat_setWidth_of_le (by decide)

/-- Settles O51: the tables' codes, and that each enumeration is read back from its codes. -/
theorem outputCodesAreDistinct : Obligations.OutputCodesAreDistinct :=
  ⟨rfl, OpKind.eight_le_code_iff, fun _ _ h => OpKind.ofCode_code.injective h,
    rfl, fun _ _ h => MemMode.ofCode_code.injective h,
    rfl, rfl, rfl, fun _ _ h => Mnemonic.ofCode_code.injective h, Mnemonic.sixtyFour_le_code_iff,
    Mnemonic.code_lt_of_lt,
    Ext.ext_code_toNat, rfl, fun _ _ h => Ext.ofCode_code.injective h,
    rfl, fun _ _ h => Shift.ofCode_code.injective h,
    rfl, fun _ _ _ ha hb =>
      Option.some.inj ((UndefReason.table_of_code ha).symm.trans (UndefReason.table_of_code hb)),
    rfl, fun _ _ _ ha hb =>
      Option.some.inj ((UnimplKind.table_of_code ha).symm.trans (UnimplKind.table_of_code hb))⟩

end Sys2Proof.Machine

/-! The records of the decode core: the sign-extender on a field (spec/30_encoding.md R117), the record each form of word
gives (R200, R230, R260, R290, R320), and where the router answers `Ok` (R170–R174). -/

namespace Sys2Proof.Machine
open Sys2Proof

/-! ### The sign-extender on a field (R117) -/

/-- A zero-extended field of at most 64 bits is left alone by `zext`. -/
theorem zext_setWidth {n : Nat} (hn : n ≤ 64) (v : BitVec n) : zext n (v.setWidth 64) = v.setWidth 64 := by
  apply BitVec.eq_of_toNat_eq
  have hle : 2 ^ n ≤ 2 ^ 64 := Nat.pow_le_pow_right (by omega) hn
  have hpos : 0 < 2 ^ n := Nat.two_pow_pos n
  have hv := v.isLt
  rw [zext, BitVec.toNat_and, BitVec.toNat_ofNat, BitVec.toNat_setWidth, Nat.mod_eq_of_lt (by omega : v.toNat < 2 ^ 64),
    Nat.mod_eq_of_lt (by omega : 2 ^ n - 1 < 2 ^ 64), Nat.and_two_pow_sub_one_eq_mod, Nat.mod_eq_of_lt hv]

/-- The sign test of R117 on a zero-extended field reads the field's most significant bit. -/
theorem setWidth_ushiftRight_eq_one {n : Nat} (h1 : 1 ≤ n) (h64 : n ≤ 64) (v : BitVec n) :
    v.setWidth 64 >>> (n - 1) = 1 ↔ v.msb = true := by
  have hle : 2 ^ n ≤ 2 ^ 64 := Nat.pow_le_pow_right (by omega) h64
  have hhalf : 2 ^ n = 2 * 2 ^ (n - 1) := by rw [← Nat.pow_succ', Nat.succ_eq_add_one, Nat.sub_add_cancel h1]
  have hv := v.isLt
  have hone : (1 : Imm).toNat = 1 := rfl
  rw [← BitVec.toNat_inj, BitVec.toNat_ushiftRight, BitVec.toNat_setWidth,
    Nat.mod_eq_of_lt (by omega : v.toNat < 2 ^ 64), Nat.shiftRight_eq_div_pow, BitVec.msb_eq_decide, decide_eq_true_eq,
    hone, Nat.div_eq_iff (Nat.two_pow_pos _)]
  omega

/-- On a field of `n` bits, `sext n` is the library's sign extension. -/
theorem sext_setWidth {n : Nat} (h1 : 1 ≤ n) (h64 : n ≤ 64) (v : BitVec n) :
    sext n (v.setWidth 64) = v.signExtend 64 := by
  have hle : 2 ^ n ≤ 2 ^ 64 := Nat.pow_le_pow_right (by omega) h64
  have hv := v.isLt
  apply BitVec.eq_of_toNat_eq
  rw [BitVec.toNat_signExtend]
  simp only [sext, zext_setWidth h64, setWidth_ushiftRight_eq_one h1 h64]
  split
  · rw [BitVec.toNat_sub, BitVec.toNat_setWidth, BitVec.toNat_ofNat]
    omega
  · rfl

/-- The pair offset of R118 is the sign-extended field times the scale in bytes. -/
theorem pairOffset_eq (imm7 : BitVec 7) (bits : Nat) :
    pairOffset imm7 bits = imm7.signExtend 64 * BitVec.ofNat 64 (bits / 8) := by
  rw [pairOffset, sext_setWidth (by omega) (by omega)]

/-! ### Families and mnemonics of the leaf decoders -/

/-- The single-register families are never `SP` (R34, R127). -/
theorem fam_ne_SP (b : LsOp) (c : Cell) : fam b c ≠ .SP := by
  unfold fam famScalar
  cases b <;> grind

/-- The pair families are never `SP` (R34, R128). -/
theorem famPair_ne_SP {opc : BitVec 2} {v : Bool} {m : Mnemonic} {f : Family} {bits : Nat}
    (h : famPair opc v m = some (f, bits)) : f ≠ .SP := by
  rintro rfl
  unfold famPair at h
  split at h
  case h_3 => -- the cell `(01, 0)`, whose row names its mnemonic
    split at h
    · cases h
    · split at h <;> cases h
  all_goals cases h

/-- The mnemonics the leaf decoders give a record: those whose codes lie between STR's and LDPSW's (R44). -/
def Mnemonic.IsLeaf (m : Mnemonic) : Prop := Mnemonic.str.code ≤ m.code ∧ m.code ≤ Mnemonic.ldpsw.code

theorem isLeaf_baseName (b : LsOp) : b.baseName.IsLeaf := by
  cases b <;> exact ⟨by decide, by decide⟩

theorem isLeaf_unscaledName (b : LsOp) : b.unscaledName.IsLeaf := by
  cases b <;> exact ⟨by decide, by decide⟩

/-- The mnemonic that `PairDecode` chooses (R200). -/
def pairMnemonic (w : Word) : Mnemonic :=
  if fTop2 w = 0b01 ∧ fV w = false then (if fL w then .ldpsw else .stgp) else (if fL w then .ldp else .stp)

theorem isLeaf_pairMnemonic (w : Word) : (pairMnemonic w).IsLeaf := by
  unfold pairMnemonic
  split <;> split <;> exact ⟨by decide, by decide⟩

theorem pairDecode_eq (w : Word) (mode : MemMode) :
    pairDecode w mode =
      if fTop2 w = 0b11 then .undefined .pairOpc11
      else pairOut (pairMnemonic w) mode (fTop2 w) (fV w) (fImm7 w) (fRt2 w) (fRn w) (fRt w) := rfl

/-! ### The record of each form of word -/

/-- A record of a pair word (R200). -/
def PairForm (w : Word) (r : Record) : Prop :=
  ∃ (m : Mnemonic) (f : Family) (scale : Nat) (mode : MemMode), m.IsLeaf ∧ f ≠ .SP ∧
    r = pairRec m f scale mode (fImm7 w) (fRt2 w) (fRn w) (fRt w)

/-- A record of a register-offset word (R260). -/
def RegoffForm (w : Word) (r : Record) : Prop :=
  ∃ (m : Mnemonic) (f : Family) (a : Fin 5), m.IsLeaf ∧ f ≠ .SP ∧
    r = regoffRec m f a (fRm w) (fOption w) (fS w) (fRn w) (fRt w)

/-- A record of an immediate word: unsigned (R230), unscaled (R290) or indexed (R320). -/
def SingleForm (w : Word) (r : Record) : Prop :=
  ∃ (m : Mnemonic) (f : Family) (offset : Imm) (mode : MemMode), m.IsLeaf ∧ f ≠ .SP ∧
    r = singleRec m f offset mode (fRn w) (fRt w)

theorem pairDecode_ok {w : Word} {mode : MemMode} {r : Record} (h : pairDecode w mode = .ok r) : PairForm w r := by
  rw [pairDecode_eq] at h
  split at h
  · cases h
  · unfold pairOut at h
    split at h
    · cases h
    · next f bits hfam =>
      cases h
      refine ⟨pairMnemonic w, f, bits / 8, mode, isLeaf_pairMnemonic w, famPair_ne_SP hfam, ?_⟩
      rw [pairOffset_eq]
      rfl

/-- The register-offset record is the one R261's table gives, with the cell's `amt_size`. -/
theorem regoffOut_eq (b : LsOp) (c : Cell) (rm : RegIx) (option : BitVec 3) (s : Bool) (rn rt : RegIx) :
    regoffOut b c rm option s rn rt = .ok (regoffRec b.baseName (fam b c) (amtSize c) rm option s rn rt) := rfl

theorem uimmOut_eq (b : LsOp) (c : Cell) (imm12 : BitVec 12) (rn rt : RegIx) :
    uimmOut b c imm12 rn rt = .ok (singleRec b.baseName (fam b c) (uimmOffset imm12 c.size) .offset rn rt) := rfl

theorem unscOut_eq (b : LsOp) (c : Cell) (imm9 : BitVec 9) (rn rt : RegIx) :
    unscOut b c imm9 rn rt = .ok (singleRec b.unscaledName (fam b c) (imm9Offset imm9) .offset rn rt) := rfl

theorem idxOut_eq (mode : MemMode) (b : LsOp) (c : Cell) (imm9 : BitVec 9) (rn rt : RegIx) :
    idxOut mode b c imm9 rn rt = .ok (singleRec b.baseName (fam b c) (imm9Offset imm9) mode rn rt) := rfl

theorem regOffDecode_ok {w : Word} {r : Record} (h : regOffDecode w = .ok r) : RegoffForm w r := by
  unfold regOffDecode at h
  split at h
  · cases h
  · cases h
  · next b _ =>
    rw [regoffOut_eq] at h
    exact ⟨_, _, _, isLeaf_baseName b, fam_ne_SP b _, (RouterOut.ok.inj h).symm⟩

theorem uImmDecode_ok {w : Word} {r : Record} (h : uImmDecode w = .ok r) : SingleForm w r := by
  unfold uImmDecode at h
  split at h
  · cases h
  · cases h
  · next b _ =>
    rw [uimmOut_eq] at h
    exact ⟨_, _, _, _, isLeaf_baseName b, fam_ne_SP b _, (RouterOut.ok.inj h).symm⟩

theorem unscDecode_ok {w : Word} {r : Record} (h : unscDecode w = .ok r) : SingleForm w r := by
  unfold unscDecode at h
  split at h
  · cases h
  · cases h
  · next b _ =>
    rw [unscOut_eq] at h
    exact ⟨_, _, _, _, isLeaf_unscaledName b, fam_ne_SP b _, (RouterOut.ok.inj h).symm⟩

theorem idxDecode_ok {w : Word} {mode : MemMode} {r : Record} (h : idxDecode w mode = .ok r) : SingleForm w r := by
  unfold idxDecode at h
  split at h
  · cases h
  · cases h
  · next b _ =>
    rw [idxOut_eq] at h
    exact ⟨_, _, _, _, isLeaf_baseName b, fam_ne_SP b _, (RouterOut.ok.inj h).symm⟩

/-! ### Where the router answers `Ok` -/

theorem pairSelect_ok {w : Word} {r : Record} (h : pairSelect w = .ok r) : PairForm w r := by
  unfold pairSelect at h
  split at h
  · cases h
  · split at h
    · exact pairDecode_ok h
    · split at h <;> exact pairDecode_ok h

/-- The register-or-atomic selector answers `Ok` in the register-offset form where `I[24] = 0` and `I[21] = 1`, and in
an immediate form elsewhere (R174). -/
theorem regSelect_ok {w : Word} {r : Record} (h : regSelect w = .ok r) :
    if fOp2h w = false ∧ fB21 w = true then RegoffForm w r else SingleForm w r := by
  unfold regSelect at h
  cases hop2 : fOp2h w with
  | true => simpa using uImmDecode_ok (by simpa [hop2] using h)
  | false =>
    rw [hop2, if_neg (by decide)] at h
    cases hb : fB21 w with
    | true =>
      rw [hb, if_pos rfl] at h
      split at h
      · cases h
      · split at h
        · simpa using regOffDecode_ok h
        · cases h
    | false =>
      rw [hb, if_neg (by decide)] at h
      suffices SingleForm w r by simpa
      split at h
      · exact unscDecode_ok h
      · split at h
        · exact idxDecode_ok h
        · split at h
          · cases h
          · exact idxDecode_ok h

theorem simdStruct_ne_ok (w : Word) (r : Record) : simdStruct w ≠ .ok r := by
  unfold simdStruct
  split
  · nofun
  · split <;> nofun

/-- The loads/stores classifier answers `Ok` through the pair selector or the register-or-atomic selector alone (R171). -/
theorem lsClassify_ok {w : Word} {r : Record} (h : lsClassify w = .ok r) :
    (fOp0Low w = 0b10 ∧ pairSelect w = .ok r) ∨ (fOp0Low w ≠ 0b10 ∧ regSelect w = .ok r) := by
  unfold lsClassify at h
  split at h
  · exact absurd h (simdStruct_ne_ok w r)
  · iterate 4 (split at h; cases h) -- the four Unimplemented arms
    split at h
    · next hp => exact .inl ⟨hp, h⟩
    · next hp => exact .inr ⟨hp, h⟩

/-- The core answers `Ok` through the loads/stores classifier alone (R170). -/
theorem dispatch_ok {w : Word} {r : Record} (h : dispatch w = .ok r) : lsClassify w = .ok r := by
  unfold dispatch at h
  iterate 6 (split at h; cases h) -- the arms before the loads/stores
  split at h
  · exact h
  · split at h <;> cases h

/-- The form of a word of which the core answers `Ok`. -/
theorem dispatch_ok_form {w : Word} {r : Record} (h : dispatch w = .ok r) :
    if fOp0Low w = 0b10 then PairForm w r
    else if fOp2h w = false ∧ fB21 w = true then RegoffForm w r
    else SingleForm w r := by
  rcases lsClassify_ok (dispatch_ok h) with ⟨hp, hsel⟩ | ⟨hp, hsel⟩
  · rw [if_pos hp]
    exact pairSelect_ok hsel
  · rw [if_neg hp]
    exact regSelect_ok hsel

/-! ### What the three forms share -/

/-- What R34, R41, R43 and R47 say of a record of the core, whatever the word's form. -/
structure Record.CoreLaws (w : Word) (r : Record) : Prop where
  category : r.category = some .loadStore
  op0Kind : r.op0Kind = .register
  op0Reg : ∃ f : Family, f ≠ .SP ∧ r.op0Reg = .reg f (fRt w)
  memBase : r.memBase = .reg .X (fRn w)
  op2Reg : r.op2Reg = .none
  op0Imm : r.op0Imm = 0
  op1Imm : r.op1Imm = 0
  op2Imm : r.op2Imm = 0
  op3Kind : r.op3Kind = .none
  address : r.address = 0
  preIndexLaw : r.memIsPreIndexed = decide (r.memMode = .preIndex)
  mnemonic : r.mnemonic.IsLeaf
  noSP : ∀ n : RegIx, r.op1Reg ≠ .reg .SP n ∧ r.memAddendReg ≠ .reg .SP n

/-- The forms differ in the fields given here as variables: a record that sets no other field beside `singleRec`'s, and
names no `SP` register in them, is under the shared laws. -/
theorem coreLaws_of_singleRec {w : Word} {m : Mnemonic} {f : Family} (hm : m.IsLeaf) (hf : f ≠ .SP) (offset : Imm)
    (mode : MemMode) (op1Kind op2Kind : OpKind) {op1Reg addend : RegId} (hop1 : ∀ n, op1Reg ≠ .reg .SP n)
    (hadd : ∀ n, addend ≠ .reg .SP n) (ext : Ext) (shift : Shift) (amount : Fin 5) :
    Record.CoreLaws w { singleRec m f offset mode (fRn w) (fRt w) with
      op1Kind := op1Kind, op2Kind := op2Kind, op1Reg := op1Reg, memAddendReg := addend, memExtendType := ext,
      memShiftType := shift, memAmount := amount } where
  category := rfl
  op0Kind := rfl
  op0Reg := ⟨f, hf, rfl⟩
  memBase := rfl
  op2Reg := rfl
  op0Imm := rfl
  op1Imm := rfl
  op2Imm := rfl
  op3Kind := rfl
  address := rfl
  preIndexLaw := rfl
  mnemonic := hm
  noSP := fun n => ⟨hop1 n, hadd n⟩

theorem reg_ne_SP {f : Family} (hf : f ≠ .SP) (k n : RegIx) : RegId.reg f k ≠ .reg .SP n :=
  fun h => hf (RegId.reg.inj h).1

theorem none_ne_SP (n : RegIx) : RegId.none ≠ .reg .SP n := nofun

theorem PairForm.coreLaws {w : Word} {r : Record} (h : PairForm w r) : r.CoreLaws w := by
  obtain ⟨m, f, scale, mode, hm, hf, rfl⟩ := h
  exact coreLaws_of_singleRec hm hf _ mode .register .memory (reg_ne_SP hf (fRt2 w)) none_ne_SP .none .none 0

theorem RegoffForm.coreLaws {w : Word} {r : Record} (h : RegoffForm w r) : r.CoreLaws w := by
  obtain ⟨m, f, a, hm, hf, rfl⟩ := h
  have hadd : (if (fOption w).getLsbD 0 then Family.X else .W) ≠ .SP := by split <;> decide
  exact coreLaws_of_singleRec hm hf 0 .offset .memory .none none_ne_SP (reg_ne_SP hadd (fRm w)) _ _ _

theorem SingleForm.coreLaws {w : Word} {r : Record} (h : SingleForm w r) : r.CoreLaws w := by
  obtain ⟨m, f, offset, mode, hm, hf, rfl⟩ := h
  exact coreLaws_of_singleRec hm hf offset mode .memory .none none_ne_SP none_ne_SP .none .none 0

/-- A leaf mnemonic's code is neither below `STR`'s nor above `LDPSW`'s. -/
theorem Mnemonic.IsLeaf.ne {m m' : Mnemonic} (h : m.IsLeaf)
    (hm' : m'.code < Mnemonic.str.code ∨ Mnemonic.ldpsw.code < m'.code) : m ≠ m' := by
  rintro rfl
  obtain ⟨hlo, hhi⟩ := h
  omega

theorem Mnemonic.IsLeaf.ne_collab {m : Mnemonic} (h : m.IsLeaf) (k : Nat) : m ≠ .collab k :=
  h.ne (.inr (Nat.lt_of_lt_of_le (by decide : Mnemonic.ldpsw.code < 64) (Nat.le_add_right 64 k)))

theorem coreLaws_of_dispatch_ok {w : Word} {r : Record} (h : dispatch w = .ok r) : r.CoreLaws w := by
  have hform := dispatch_ok_form h
  split at hform
  · exact hform.coreLaws
  · split at hform
    · exact hform.coreLaws
    · exact hform.coreLaws

/-- Settles O29: the laws the forms share, and each form's own record. -/
theorem okRecordsOfTheCore : Obligations.OkRecordsOfTheCore := by
  intro w r h
  have laws := coreLaws_of_dispatch_ok h
  refine ⟨laws.category, laws.op0Kind, laws.op0Reg, laws.memBase, laws.op2Reg, laws.op0Imm, laws.op1Imm, laws.op2Imm,
    laws.op3Kind, laws.address, laws.preIndexLaw, laws.mnemonic.ne (by decide), laws.mnemonic.ne (by decide),
    laws.mnemonic.ne (by decide), laws.mnemonic.ne (by decide), laws.mnemonic.ne_collab, laws.noSP, ?_⟩
  have hform := dispatch_ok_form h
  split
  · next hp =>
    rw [if_pos hp] at hform
    obtain ⟨m, f, scale, mode, -, hf, rfl⟩ := hform
    exact ⟨f, scale, hf, rfl⟩
  · next hp =>
    rw [if_neg hp] at hform
    split
    · next hr =>
      rw [if_pos hr] at hform
      obtain ⟨m, f, a, -, hf, rfl⟩ := hform
      exact ⟨f, a, hf, rfl⟩
    · next hr =>
      rw [if_neg hr] at hform
      obtain ⟨m, f, offset, mode, -, hf, rfl⟩ := hform
      exact ⟨f, hf, rfl⟩

end Sys2Proof.Machine

/-! One step of the sequencer: the invariant of a call under each state change (spec/10_state.md R50, R52, R83, R84), and
the offset that a surfaced error names (60_exceptions.md R411). -/

namespace Sys2Proof.Machine
open Sys2Proof

/-! ### The call invariant under each state change -/

/-- A word is read only where its four bytes lie in the buffer (R80, R81). -/
theorem Memory.readWord_some_bound {m : Memory} {a : Nat} {w : Word} (h : m.readWord a = some w) : a + 4 ≤ m.len := by
  by_contra hlt
  have hnone : m.read (a + 3) = none := if_neg (by omega)
  simp [Memory.readWord, hnone] at h

theorem getElem?_concat_eq_some {α : Type} {l : List α} {a b : α} {k : Nat} (h : (l ++ [a])[k]? = some b) :
    l[k]? = some b ∨ (k = l.length ∧ b = a) := by
  rcases Nat.lt_trichotomy k l.length with hlt | heq | hgt
  · exact .inl (by rwa [List.getElem?_append_left hlt] at h)
  · subst heq
    exact .inr ⟨rfl, by simpa using h.symm⟩
  · rw [List.getElem?_eq_none (by simp; omega)] at h
    cases h

/-- In a call that has not failed there is one record per word before `i` (R52). -/
theorem State.Inv.outLength {s : State} (h : s.Inv) (hs : ∀ e, s.status ≠ .failed e) : 4 * s.out.length = s.i :=
  h.oneRecordPerWord.resolve_right fun ⟨_, _, e, he⟩ => hs e he

theorem State.Inv.afterEnd {s : State} (h : s.Inv) : s.afterEnd.Inv where
  memWf := h.memWf
  aligned := h.aligned
  inBuffer := h.inBuffer
  checked := h.checked
  oneRecordPerWord := h.oneRecordPerWord
  addresses := h.addresses
  preIndexLaw := h.preIndexLaw
  doneAtEnd := h.doneAtEnd

theorem State.Inv.finish {s : State} (h : s.Inv) (hr : s.status = .running) (hi : s.i = s.mem.len) : s.finish.Inv where
  memWf := h.memWf
  aligned := h.aligned
  inBuffer := h.inBuffer
  checked := h.checked
  oneRecordPerWord := .inl (h.outLength (by simp [hr]))
  addresses := h.addresses
  preIndexLaw := h.preIndexLaw
  doneAtEnd := fun _ => hi

/-- The records a surfaced error leaves are records of the state before it. -/
theorem State.surface_out_getElem? {s : State} {e : CallError} {k : Nat} {r : Record}
    (h : (s.surface e).out[k]? = some r) : s.out[k]? = some r := by
  rw [State.surface_out] at h
  cases hs : s.shape with
  | eager => simp [hs] at h
  | lazy => simpa [hs] using h

theorem State.Inv.surface {s : State} (h : s.Inv) (hr : s.status = .running) (e : CallError) : (s.surface e).Inv where
  memWf := h.memWf
  aligned := h.aligned
  inBuffer := h.inBuffer
  checked := h.checked
  oneRecordPerWord := by
    cases hs : s.shape with
    | eager => exact .inr ⟨hs, by simp [hs], e, rfl⟩
    | lazy => exact .inl (by simpa [hs] using h.outLength (by simp [hr]))
  addresses := fun k r hk => h.addresses k r (State.surface_out_getElem? hk)
  preIndexLaw := fun k r hk => h.preIndexLaw k r (State.surface_out_getElem? hk)
  doneAtEnd := fun hd => by simp at hd

theorem State.Inv.append {s : State} (h : s.Inv) (hr : s.status = .running) (hlen : s.mem.len % 4 = 0)
    (hin : s.i + 4 ≤ s.mem.len) {r : Record} (ha : r.address = s.va + BitVec.ofNat 64 s.i)
    (hl : r.memIsPreIndexed = decide (r.memMode = .preIndex)) : (s.append r).Inv where
  memWf := h.memWf
  aligned := by simp [h.aligned]
  inBuffer := hin
  checked := fun _ => hlen
  oneRecordPerWord := .inl (by
    have hone := h.outLength (by simp [hr])
    simp only [State.append_out, State.append_i, List.length_append, List.length_singleton]
    omega)
  addresses := fun k r' hk => by
    rcases getElem?_concat_eq_some hk with hold | ⟨rfl, rfl⟩
    · exact h.addresses k r' hold
    · rw [State.append_va, h.outLength (by simp [hr]), ha]
  preIndexLaw := fun k r' hk => by
    rcases getElem?_concat_eq_some hk with hold | ⟨-, rfl⟩
    · exact h.preIndexLaw k r' hold
    · exact hl
  doneAtEnd := fun hd => by simp [hr] at hd

/-- Whatever an instruction does with the word at `i` keeps the invariant (R52, R84, R411). -/
theorem State.Inv.exec_next {s t : State} (h : s.Inv) (hr : s.status = .running) (hlen : s.mem.len % 4 = 0)
    (hin : s.i + 4 ≤ s.mem.len) {i : Instr} (ht : exec i s = .next t) : t.Inv := by
  rcases exec_cases i s with ⟨r, hx, ha, hl⟩ | ⟨e, hx⟩
  · obtain rfl : s.append r = t := Host.Outcome.next.inj (hx.symm.trans ht)
    exact h.append hr hlen hin ha hl
  · obtain rfl : s.surface e = t := Host.Outcome.next.inj (hx.symm.trans ht)
    exact h.surface hr e

/-- Settles O37, by the cases of a step: each state change a step can make keeps the invariant. -/
theorem everyStepKeepsTheCallInvariant : Obligations.EveryStepKeepsTheCallInvariant := by
  intro s t h ht
  rcases step_cases s with ⟨_, hx⟩ | ⟨_, _, hx⟩ | ⟨_, hr, _, _, hx⟩ | ⟨_, hr, _, hi, hx⟩ |
    ⟨w, _, hr, hc, _, _, hw, hx⟩ | ⟨_, _, _, hx⟩ | ⟨_, _, _, _, _, _, hx⟩ <;> rw [hx] at ht
  · cases ht
  · cases ht
    exact h.afterEnd
  · cases ht
    exact h.surface hr _
  · cases ht
    exact h.finish hr hi
  · have hlen : s.mem.len % 4 = 0 := by
      by_cases h0 : s.i = 0
      · exact hc h0
      · exact h.checked h0
    exact h.exec_next hr hlen (Memory.readWord_some_bound hw) ht
  · cases ht
  · cases ht

/-! ### The error of a word names the word's offset -/

/-- Every error that `SeqWord` surfaces for the word at `i` names the offset `i` (R406-R408, R411). -/
theorem seqRecord_error_offset {f : Flags} {va : Addr} {i : Nat} {w : Word} {d : DecodeResult} {e : CallError}
    (h : seqRecord f va i w d = .error e) : e.offset = some i := by
  have fin : ∀ r, finishRecord f va i w r = .error e → e.offset = some i := fun r hr => by
    rw [finishRecord_eq] at hr
    split at hr <;> cases hr
    rfl
  cases d with
  | ok r => exact fin r h
  | unimplemented kind => exact fin _ h
  | undefined reason =>
    cases hc : f.continueOnError with
    | true => exact fin invalidRec (by simpa [seqRecord, recordOf, onUndefined, hc] using h)
    | false =>
      obtain rfl : CallError.undefined w i reason = e := by simpa [seqRecord, recordOf, onUndefined, hc] using h
      rfl
  | unexpected x =>
    cases hc : f.continueOnError with
    | true => exact fin invalidRec (by simpa [seqRecord, recordOf, onUnexpected, hc] using h)
    | false =>
      obtain rfl : CallError.unexpected w i va x = e := by simpa [seqRecord, recordOf, onUnexpected, hc] using h
      rfl

/-- A sequencer word that ends in a surfaced error surfaces one that names its offset. -/
theorem seqWord_eq_surface_offset {s : State} {w : Word} {o : RouterOut} {e : CallError}
    (h : s.seqWord w o = s.surface e) : e.offset = some s.i := by
  cases hrec : seqRecord s.flags s.va s.i w (decodeFull w o) with
  | ok r =>
    have hi : s.i + 4 = s.i := by simpa [State.seqWord, hrec] using congrArg State.i h
    omega
  | error e' =>
    obtain rfl : e' = e := by simpa [State.seqWord, hrec] using congrArg State.status h
    exact seqRecord_error_offset hrec

/-- The whole frame of an appended record (R52). -/
theorem State.append_eq (s : State) (r : Record) :
    s.append r = { s with
      out := s.out ++ [r], i := s.i + 4, reply := if s.shape = .lazy then some (.item r) else s.reply } := by
  cases s with | mk shape => cases shape <;> rfl

/-- Settles O32: an instruction is one sequencer word, which appends one record or surfaces one error. -/
theorem execDeliversOneRecordOrSurfaces : Obligations.ExecDeliversOneRecordOrSurfaces := by
  intro i s
  obtain ⟨o, ho, hx⟩ := exec_is_seqWord i s
  rcases seqWord_cases s (encode i) ho with ⟨r, hr, ha, hl⟩ | ⟨e, he⟩
  · exact .inl ⟨r, by rw [hx, hr, State.append_eq], ha, hl⟩
  · exact .inr ⟨e, by rw [hx, he, State.surfaced_eq_surface], seqWord_eq_surface_offset he⟩

end Sys2Proof.Machine

/-! The decoder against the decode core: a word of a format is the encoding of its own fields (spec/30_encoding.md
R111–R116), and node for node of the router (40_dispatch.md R170–R174) the decoded instruction runs as one sequencer word
over the core's answer for the word. -/

namespace Sys2Proof

/-! ### A word is the encoding of its own fields -/

/-- Two adjacent fields are one field. -/
theorem field_append_field (w : Word) {hi lo n : Nat} (m : Nat) (h : hi = lo + n) :
    field w hi m ++ field w lo n = field w lo (m + n) := by
  subst h
  apply BitVec.eq_of_getLsbD_eq
  intro k hk
  simp only [field, BitVec.getLsbD_append, BitVec.getLsbD_extractLsb']
  split
  · next hlt => simp [hlt, hk]
  · next hge => simp [hk, show k - n < m by omega, show lo + n + (k - n) = lo + k by omega]

theorem field_zero_full (w : Word) : field w 0 32 = w := by
  apply BitVec.eq_of_getLsbD_eq
  intro k hk
  simp [field, hk]

theorem ofBool_bitAt (w : Word) (n : Nat) : BitVec.ofBool (bitAt w n) = field w n 1 := by
  apply BitVec.eq_of_getLsbD_eq
  intro k hk
  obtain rfl : k = 0 := by omega
  simp [field, bitAt]

theorem ofBool_eq_field {w : Word} {n : Nat} {b : Bool} (h : bitAt w n = b) : BitVec.ofBool b = field w n 1 := by
  rw [← h, ofBool_bitAt]

/-- The two bits that every loads/stores word fixes (R130). -/
theorem isLoadStore_iff (w : Word) : isLoadStore w = true ↔ bitAt w 27 = true ∧ bitAt w 25 = false := by
  simp [isLoadStore]

/-- The fixed bits `I[29:27]` of a loads/stores format: `op0'`, then 1. -/
theorem field_format {w : Word} (hls : isLoadStore w = true) : field w 27 3 = fOp0Low w ++ 1#1 := by
  rw [← field_append_field (n := 1) w 2 (by decide : 28 = 27 + 1),
    ← ofBool_eq_field ((isLoadStore_iff w).mp hls).1]
  rfl

/-- The fixed bits `I[25:24]` of a single-register format: 0, then `op2h`. -/
theorem field_op2h {w : Word} (hls : isLoadStore w = true) : field w 24 2 = 0#1 ++ BitVec.ofBool (fOp2h w) := by
  rw [← field_append_field (n := 1) w 1 (by decide : 25 = 24 + 1),
    ← ofBool_eq_field ((isLoadStore_iff w).mp hls).2, fOp2h, ofBool_bitAt]
  rfl

theorem encodePair_fields {w : Word} (hls : isLoadStore w = true) (hp : fOp0Low w = 0b10) :
    encodePair (fTop2 w) (fV w) (fOp2 w) (fL w) (fImm7 w) (fRt2 w) (fRn w) (fRt w) = w := by
  have hformat : 0b101#3 = field w 27 3 := by
    rw [field_format hls, hp]
    rfl
  have hbit : 0b0#1 = field w 25 1 := ofBool_eq_field ((isLoadStore_iff w).mp hls).2
  simp only [encodePair, hformat, hbit, fTop2, fV, fOp2, fL, fImm7, fRt2, fRn, fRt, ofBool_bitAt]
  iterate 9 rw [field_append_field w _ (by decide)]
  exact field_zero_full w

theorem encodeUimm_fields {w : Word} (hls : isLoadStore w = true) (hr : fOp0Low w = 0b11) (h24 : fOp2h w = true) :
    encodeUimm (fCell w) (fImm12 w) (fRn w) (fRt w) = w := by
  have hformat : 0b111#3 = field w 27 3 := by
    rw [field_format hls, hr]
    rfl
  have hop2 : 0b01#2 = field w 24 2 := by
    rw [field_op2h hls, h24]
    rfl
  simp only [encodeUimm, hformat, hop2, fCell, fTop2, fV, fOpc, fImm12, fRn, fRt, ofBool_bitAt]
  iterate 7 rw [field_append_field w _ (by decide)]
  exact field_zero_full w

theorem encodeRegoff_fields {w : Word} (hls : isLoadStore w = true) (hr : fOp0Low w = 0b11) (h24 : fOp2h w = false)
    (h21 : fB21 w = true) (hop4 : fOp4 w = 0b10) :
    encodeRegoff (fCell w) (fRm w) (fOption w) (fS w) (fRn w) (fRt w) = w := by
  have hformat : 0b111#3 = field w 27 3 := by
    rw [field_format hls, hr]
    rfl
  have hop2 : 0b00#2 = field w 24 2 := by
    rw [field_op2h hls, h24]
    rfl
  have hbit : 0b1#1 = field w 21 1 := ofBool_eq_field h21
  have hlow : 0b10#2 = field w 10 2 := hop4.symm
  simp only [encodeRegoff, hformat, hop2, hbit, hlow, fCell, fTop2, fV, fOpc, fRm, fOption, fS, fRn, fRt, ofBool_bitAt]
  iterate 11 rw [field_append_field w _ (by decide)]
  exact field_zero_full w

theorem encodeImm9_fields {w : Word} (hls : isLoadStore w = true) (hr : fOp0Low w = 0b11) (h24 : fOp2h w = false)
    (h21 : fB21 w = false) : encodeImm9 (fCell w) (fImm9 w) (fOp4 w) (fRn w) (fRt w) = w := by
  have hformat : 0b111#3 = field w 27 3 := by
    rw [field_format hls, hr]
    rfl
  have hop2 : 0b00#2 = field w 24 2 := by
    rw [field_op2h hls, h24]
    rfl
  have hbit : 0b0#1 = field w 21 1 := ofBool_eq_field h21
  simp only [encodeImm9, hformat, hop2, hbit, fCell, fTop2, fV, fOpc, fImm9, fOp4, fRn, fRt, ofBool_bitAt]
  iterate 9 rw [field_append_field w _ (by decide)]
  exact field_zero_full w

/-! ### The cells of the lookup tables -/

/-- The one cell of an operation that the tables list once (R122). -/
def LsOp.onlyCell : LsOp → Option Cell
  | .strb => some ⟨0b00, 0b00, false⟩
  | .strh => some ⟨0b00, 0b01, false⟩
  | .ldrb => some ⟨0b01, 0b00, false⟩
  | .ldrh => some ⟨0b01, 0b01, false⟩
  | .ldrsw => some ⟨0b10, 0b10, false⟩
  | .str | .ldr | .ldrsb | .ldrsh => none

/-- What an entry of `LUT_UIMM` says of its cell. -/
def LutEntry.cellOk (c : Cell) : LutEntry → Prop
  | .op b => ∀ c' ∈ b.onlyCell, c = c'
  | .prefetch => c = ⟨0b11, 0b10, false⟩
  | .undefined => True

theorem lutUimm_cellOk (c : Cell) : (lutUimm c).cellOk c := by
  obtain ⟨opc, size, v⟩ := c
  simp only [lutUimm]
  split <;> simp [LutEntry.cellOk, LsOp.onlyCell]

theorem lutUimm_of_lutIdx {c : Cell} {b : LsOp} (h : lutIdx c = .op b) : lutUimm c = .op b := by
  unfold lutIdx at h
  split at h -- on the vector bit, in the condition
  all_goals
    split at h
    · cases h
    · exact h

theorem lutUimm_of_lutReg {c : Cell} {b : LsOp} (h : lutReg c = .op b) : lutUimm c = .op b := by
  unfold lutReg at h
  split at h
  · cases h
  · exact h

/-- The cell of an operation that the tables list once is that one. -/
theorem onlyCell_getD {c : Cell} {b : LsOp} (h : lutUimm c = .op b) : b.onlyCell.getD c = c := by
  have hok := lutUimm_cellOk c
  rw [h] at hok
  cases hb : b.onlyCell with
  | none => rfl
  | some c' => exact (hok c' hb).symm

/-- The prefetch entry of `LUT_UIMM` names its cell. -/
theorem cell_of_lutUimm_prefetch {c : Cell} (h : lutUimm c = .prefetch) : c = ⟨0b11, 0b10, false⟩ := by
  have hok := lutUimm_cellOk c
  rw [h] at hok
  exact hok

end Sys2Proof

namespace Sys2Proof.Machine
open Sys2Proof

/-! ### Node for node: the decoded instruction runs over the core's answer -/

/-- `i` runs as one sequencer word over the output `o` for the word `w` (R91). -/
def RunsAs (i : Instr) (w : Word) (o : RouterOut) : Prop := ∀ s : State, exec i s = .next (s.seqWord w o)

/-- An instruction runs on the word its encoding gives. -/
theorem RunsAs.of_encode {i : Instr} {w : Word} {o : RouterOut} (henc : encode i = w)
    (h : ∀ s, exec i s = .next (s.seqWord (encode i) o)) : RunsAs i w o := henc ▸ h

/-- A node of the decoder and the core's node with the same condition. -/
theorem RunsAs.ite {c : Prop} [Decidable c] {i j : Instr} {w : Word} {o p : RouterOut} (hpos : c → RunsAs i w o)
    (hneg : ¬c → RunsAs j w p) : RunsAs (if c then i else j) w (if c then o else p) := by
  split
  · next h => exact hpos h
  · next h => exact hneg h

/-- The `op2` field that selects a mode of the pair format (R173). -/
def pairModeBits : MemMode → BitVec 2
  | .postIndex => 0b01
  | .offset => 0b10
  | .preIndex => 0b11

theorem decodePair_runsAs {w : Word} {mode : MemMode}
    (henc : encodePair (fTop2 w) (fV w) (pairModeBits mode) (fL w) (fImm7 w) (fRt2 w) (fRn w) (fRt w) = w) :
    RunsAs (decodePair mode w) w (pairDecode w mode) := by
  unfold decodePair pairDecode
  refine .ite (fun _ _ => rfl) fun _ => ?_
  cases hl : fL w <;> rw [hl] at henc
  all_goals
    by_cases hc : fTop2 w = 0b01 ∧ fV w = false
    · obtain ⟨htop, hv⟩ := hc
      rw [htop, hv] at henc ⊢
      cases mode <;> exact .of_encode henc fun _ => rfl
    · rw [if_neg hc, if_neg hc]
      cases mode <;> exact .of_encode henc fun _ => rfl

theorem decodeUimm_runsAs {w : Word} (henc : encodeUimm (fCell w) (fImm12 w) (fRn w) (fRt w) = w) :
    RunsAs (decodeUimm w) w (uImmDecode w) := by
  unfold decodeUimm uImmDecode
  cases hlut : lutUimm (fCell w) with
  | undefined => exact fun _ => rfl
  | prefetch =>
    rw [cell_of_lutUimm_prefetch hlut] at henc
    exact .of_encode henc fun _ => rfl
  | op b =>
    rw [← onlyCell_getD hlut] at henc ⊢
    cases b <;> exact .of_encode henc fun _ => rfl

theorem decodeRegoff_runsAs {w : Word} (henc : encodeRegoff (fCell w) (fRm w) (fOption w) (fS w) (fRn w) (fRt w) = w) :
    RunsAs (decodeRegoff w) w (regOffDecode w) := by
  unfold decodeRegoff regOffDecode
  cases hlut : lutReg (fCell w) with
  | undefined => exact fun _ => rfl
  | prefetch => exact .of_encode henc fun _ => rfl
  | op b =>
    rw [← onlyCell_getD (lutUimm_of_lutReg hlut)] at henc ⊢
    cases b <;> exact .of_encode henc fun _ => rfl

theorem decodeUnsc_runsAs {w : Word} (henc : encodeImm9 (fCell w) (fImm9 w) 0b00 (fRn w) (fRt w) = w) :
    RunsAs (decodeUnsc w) w (unscDecode w) := by
  unfold decodeUnsc unscDecode
  cases hlut : lutUnsc (fCell w) with
  | undefined => exact fun _ => rfl
  | prefetch =>
    rw [cell_of_lutUimm_prefetch hlut] at henc
    exact .of_encode henc fun _ => rfl
  | op b =>
    rw [← onlyCell_getD hlut] at henc ⊢
    cases b <;> exact .of_encode henc fun _ => rfl

theorem decodePost_runsAs {w : Word} (henc : encodeImm9 (fCell w) (fImm9 w) 0b01 (fRn w) (fRt w) = w) :
    RunsAs (decodePost w) w (idxDecode w .postIndex) := by
  unfold decodePost idxDecode
  cases hlut : lutIdx (fCell w) with
  | undefined | prefetch => exact fun _ => rfl
  | op b =>
    rw [← onlyCell_getD (lutUimm_of_lutIdx hlut)] at henc ⊢
    cases b <;> exact .of_encode henc fun _ => rfl

theorem decodePre_runsAs {w : Word} (henc : encodeImm9 (fCell w) (fImm9 w) 0b11 (fRn w) (fRt w) = w) :
    RunsAs (decodePre w) w (idxDecode w .preIndex) := by
  unfold decodePre idxDecode
  cases hlut : lutIdx (fCell w) with
  | undefined | prefetch => exact fun _ => rfl
  | op b =>
    rw [← onlyCell_getD (lutUimm_of_lutIdx hlut)] at henc ⊢
    cases b <;> exact .of_encode henc fun _ => rfl

theorem decodeSimdStruct_runsAs (w : Word) : RunsAs (decodeSimdStruct w) w (simdStruct w) :=
  .ite (fun _ _ => rfl) fun _ => .ite (fun _ _ => rfl) fun _ _ => rfl

/-- A two-bit field that is none of three values is the fourth. -/
theorem eq_three_of_ne {x : BitVec 2} (h0 : x ≠ 0b00) (h1 : x ≠ 0b01) (h2 : x ≠ 0b10) : x = 0b11 := by
  revert x
  decide

theorem decodePairSelect_runsAs {w : Word} (hls : isLoadStore w = true) (hp : fOp0Low w = 0b10) :
    RunsAs (decodePairSelect w) w (pairSelect w) := by
  have henc := encodePair_fields hls hp
  have runs : ∀ mode, fOp2 w = pairModeBits mode → RunsAs (decodePair mode w) w (pairDecode w mode) :=
    fun mode hmode => decodePair_runsAs (hmode ▸ henc)
  exact .ite (fun _ _ => rfl) fun h0 => .ite (runs .postIndex) fun h1 => .ite (runs .offset) fun h2 =>
    runs .preIndex (eq_three_of_ne h0 h1 h2)

theorem decodeRegSelect_runsAs {w : Word} (hls : isLoadStore w = true) (hr : fOp0Low w = 0b11) :
    RunsAs (decodeRegSelect w) w (regSelect w) := by
  refine .ite (fun h24 => decodeUimm_runsAs (encodeUimm_fields hls hr h24)) fun h24 => .ite (fun h21 => ?_) fun h21 => ?_
  · exact .ite (fun _ _ => rfl) fun _ => .ite
      (fun hop4 => decodeRegoff_runsAs (encodeRegoff_fields hls hr (by simpa using h24) h21 hop4)) fun _ _ => rfl
  · have henc := encodeImm9_fields hls hr (by simpa using h24) (by simpa using h21)
    exact .ite (fun h0 => decodeUnsc_runsAs (h0 ▸ henc)) fun h0 => .ite (fun h1 => decodePost_runsAs (h1 ▸ henc))
      fun h1 => .ite (fun _ _ => rfl) fun h2 => decodePre_runsAs (eq_three_of_ne h0 h1 h2 ▸ henc)

theorem decodeLs_runsAs {w : Word} (hls : isLoadStore w = true) : RunsAs (decodeLs w) w (lsClassify w) :=
  .ite (fun _ => decodeSimdStruct_runsAs w) fun _ => .ite (fun _ _ => rfl) fun _ => .ite (fun _ _ => rfl) fun _ =>
    .ite (fun _ _ => rfl) fun h0 => .ite (fun _ _ => rfl) fun h1 => .ite (decodePairSelect_runsAs hls) fun h2 =>
      decodeRegSelect_runsAs hls (eq_three_of_ne h0 h1 h2)

/-- The four types of the loads and stores (R130, R170). -/
theorem isLoadStore_of_fT {w : Word} (h : fT w = 0b0100 ∨ fT w = 0b0110 ∨ fT w = 0b1100 ∨ fT w = 0b1110) :
    isLoadStore w = true := by
  rw [Laws.isLoadStore_eq_fT]
  rcases h with h | h | h | h <;> rw [h] <;> rfl

theorem decodeWord_runsAs (w : Word) : RunsAs (decodeWord w) w (dispatch w) :=
  .ite (fun _ _ => rfl) fun _ => .ite (fun _ _ => rfl) fun _ => .ite (fun _ _ => rfl) fun _ => .ite (fun _ _ => rfl)
    fun _ => .ite (fun _ _ => rfl) fun _ => .ite (fun _ _ => rfl) fun _ => .ite (fun h => decodeLs_runsAs (isLoadStore_of_fT h))
      fun _ => .ite (fun _ _ => rfl) fun _ _ => rfl

/-- Settles O31, node for node of the dispatch tree. -/
theorem execAgreesWithTheDecodeCore : Obligations.ExecAgreesWithTheDecodeCore := decodeWord_runsAs

end Sys2Proof.Machine

/-! One step in each phase (spec/20_memory.md R91–R93, R96): what the step answers where it is known which case of
`State.phase` holds, what no step writes (R80), and that no state of the call invariant stops. -/

namespace Sys2Proof

/-- The word of four bytes is their concatenation, the byte of the lowest offset last (R81). -/
theorem wordOfBytes_eq_append (b0 b1 b2 b3 : Byte) : wordOfBytes b0 b1 b2 b3 = b3 ++ b2 ++ b1 ++ b0 := by
  apply BitVec.eq_of_getLsbD_eq
  intro k hk
  simp only [wordOfBytes, BitVec.getLsbD_or, BitVec.getLsbD_shiftLeft, BitVec.getLsbD_setWidth, BitVec.getLsbD_append]
  grind

end Sys2Proof

namespace Sys2Proof.Machine
open Sys2Proof

/-! ### The step in each phase -/

theorem step_written {s : State} (hb : s.bufWritten = true) : step s = .refused .bufferWritten := by
  simp [step, State.phase, hb]

theorem step_ended {s : State} (hb : s.bufWritten = false) (hr : s.status ≠ .running) : step s = .next s.afterEnd := by
  simp [step, State.phase, hb, hr]

theorem step_structural {s : State} (hb : s.bufWritten = false) (hr : s.status = .running) (hi : s.i = 0)
    (hlen : s.mem.len % 4 ≠ 0) : step s = .next (s.surface (.structural s.mem.len)) := by
  simp [step, State.phase, hb, hr, hi, hlen]

theorem step_atEnd {s : State} (hb : s.bufWritten = false) (hr : s.status = .running) (hi : s.i = s.mem.len)
    (hlen : s.mem.len % 4 = 0) : step s = .next s.finish := by
  simp [step, State.phase, hb, hr, hi, hlen]

theorem step_word {s : State} {w : Word} (hb : s.bufWritten = false) (hr : s.status = .running) (ha : s.i % 4 = 0)
    (hc : s.i = 0 → s.mem.len % 4 = 0) (hw : s.mem.readWord s.i = some w) : step s = exec (decodeWord w) s := by
  simp only [step, phase_word hb hr ha hc hw]

/-- Nothing happens to an eager call that has returned (log entry 10). -/
theorem State.afterEnd_of_eager {s : State} (h : s.shape = .eager) : s.afterEnd = s := by
  cases s
  cases h
  rfl

/-- A pull of a stream that has ended changes the answer alone (R93). -/
theorem State.afterEnd_of_lazy {s : State} (h : s.shape = .lazy) : s.afterEnd = { s with reply := some .streamEnd } := by
  cases s
  cases h
  rfl

/-- The whole frame of the end of the words (R92, R93). -/
theorem State.finish_eq (s : State) :
    s.finish = { s with
      status := .done, reply := if s.shape = .lazy then some .streamEnd else some (.returned s.out s.va) } := by
  cases s with | mk shape => cases shape <;> rfl

/-! ### The obligations about one step -/

/-- Settles O30: the word of the four bytes is what the step decodes. -/
theorem stepRunsTheDecodedInstruction : Obligations.StepRunsTheDecodedInstruction := by
  refine ⟨wordOfBytes_eq_append, fun s b0 b1 b2 b3 hb hr ha hc h0 h1 h2 h3 => ?_⟩
  have hw : s.mem.readWord s.i = some (wordOfBytes b0 b1 b2 b3) := by simp only [Memory.readWord, h0, h1, h2, h3]
  rw [← wordOfBytes_eq_append]
  exact ⟨rfl, step_word hb hr ha hc hw⟩

/-- What no state change of a step writes: the buffer, the address, the flags, the shape and the written mark. -/
structure State.SameCall (s t : State) : Prop where
  mem : t.mem = s.mem
  va : t.va = s.va
  flags : t.flags = s.flags
  shape : t.shape = s.shape
  bufWritten : t.bufWritten = s.bufWritten

theorem State.sameCall_append (s : State) (r : Record) : s.SameCall (s.append r) := ⟨rfl, rfl, rfl, rfl, rfl⟩

theorem State.sameCall_surface (s : State) (e : CallError) : s.SameCall (s.surface e) := ⟨rfl, rfl, rfl, rfl, rfl⟩

theorem State.sameCall_finish (s : State) : s.SameCall s.finish := ⟨rfl, rfl, rfl, rfl, rfl⟩

theorem State.sameCall_afterEnd (s : State) : s.SameCall s.afterEnd := ⟨rfl, rfl, rfl, rfl, rfl⟩

theorem sameCall_of_exec {i : Instr} {s t : State} (h : exec i s = .next t) : s.SameCall t := by
  rcases exec_cases i s with ⟨r, hx, -, -⟩ | ⟨e, hx⟩ <;> rw [hx] at h <;> cases h
  · exact s.sameCall_append r
  · exact s.sameCall_surface e

theorem sameCall_of_step {s t : State} (h : step s = .next t) : s.SameCall t := by
  rcases step_cases s with ⟨_, hx⟩ | ⟨_, _, hx⟩ | ⟨_, _, _, _, hx⟩ | ⟨_, _, _, _, hx⟩ | ⟨w, _, _, _, _, _, _, hx⟩ |
    ⟨_, _, _, hx⟩ | ⟨_, _, _, _, _, _, hx⟩ <;> rw [hx] at h
  · cases h
  · cases h
    exact s.sameCall_afterEnd
  · cases h
    exact s.sameCall_surface _
  · cases h
    exact s.sameCall_finish
  · exact sameCall_of_exec h
  · cases h
  · cases h

/-- Settles O33: the frame of each state change a step can make. -/
theorem stepWritesOnlySequencerState : Obligations.StepWritesOnlySequencerState := by
  intro s t h
  obtain ⟨hmem, hva, hflags, hshape, hwritten⟩ := sameCall_of_step h
  exact ⟨fun a => by rw [hmem], hmem, hva, hflags, hshape, hwritten⟩

/-- Settles O34: the first step's phase is the Structural check. -/
theorem structuralErrorComesFirst : Obligations.StructuralErrorComesFirst := by
  intro shape bs va flags hlen
  rw [step_structural rfl rfl rfl hlen]
  cases shape <;> rfl

/-- Settles O35: the end of the words, and the two shapes after it. -/
theorem endOfWordsAndAfter : Obligations.EndOfWordsAndAfter := by
  intro s hb
  refine ⟨fun hr hi hlen => ?_, fun hr hshape => ?_, fun hr hshape => ?_⟩
  · rw [step_atEnd hb hr hi hlen, State.finish_eq]
  · rw [step_ended hb hr, State.afterEnd_of_lazy hshape]
  · rw [step_ended hb hr, State.afterEnd_of_eager hshape]

/-- A write inside the buffer, and the mark it leaves while the call is in progress (R96, log entry 8). -/
theorem State.hostWrite_eq {s : State} {a : Nat} (ha : a < s.mem.len) (b : Byte) :
    s.hostWrite a b = { s with
      mem := s.mem.write a b, bufWritten := s.bufWritten || decide (s.status = .running ∨ s.shape = .lazy) } :=
  if_pos ha

/-- Settles O36: the mark is what the step refuses, and an ended eager call leaves none. -/
theorem writtenBufferIsRefused : Obligations.WrittenBufferIsRefused := by
  intro s a b ha hwf
  have hw := State.hostWrite_eq ha b
  have hmem : (s.hostWrite a b).mem = s.mem.write a b := by rw [hw]
  refine ⟨fun hlive => step_written (by simp [hw, hlive]), fun hr hshape hb => ⟨?_, fun a' hne => ?_, ?_⟩⟩
  · rw [hmem, Memory.read_write_same hwf ha b]
  · rw [hmem, Memory.read_write_other s.mem hne b]
  · have hshape' : (s.hostWrite a b).shape = .eager := by rw [hw, hshape]
    rw [step_ended (by simp [hw, hb, hr, hshape]) (by simpa [hw] using hr), State.afterEnd_of_eager hshape']

/-- A word whose four bytes lie in the buffer is there (R80, R81). -/
theorem Memory.exists_readWord {m : Memory} {a : Nat} (h : a + 4 ≤ m.len) : ∃ w, m.readWord a = some w := by
  refine Option.isSome_iff_exists.mp ?_
  simp [Memory.readWord, Memory.read, show a < m.len by omega, show a + 1 < m.len by omega,
    show a + 2 < m.len by omega, show a + 3 < m.len by omega]

/-- Settles O39: by the invariant the offset is aligned, and a word that is not the end lies in the buffer. -/
theorem noStopFromInvariantStates : Obligations.NoStopFromInvariantStates := by
  intro s h hwritten
  rcases step_cases s with ⟨hb, _⟩ | ⟨_, _, hx⟩ | ⟨_, _, _, _, hx⟩ | ⟨_, _, _, _, hx⟩ | ⟨w, _, _, _, _, _, _, hx⟩ |
    ⟨_, _, ha, _⟩ | ⟨_, _, hc, ha, hne, hnone, _⟩
  · simp [hwritten] at hb
  · exact ⟨_, hx⟩
  · exact ⟨_, hx⟩
  · exact ⟨_, hx⟩
  · obtain ⟨o, _, ho⟩ := exec_is_seqWord (decodeWord w) s
    exact ⟨_, hx.trans ho⟩
  · exact absurd h.aligned ha
  · have hlen : s.mem.len % 4 = 0 := (Nat.eq_zero_or_pos s.i).elim hc fun hpos => h.checked (by omega)
    have hin := h.inBuffer
    obtain ⟨w, hw⟩ := Memory.exists_readWord (m := s.mem) (a := s.i) (by omega)
    rw [hnone] at hw
    cases hw

end Sys2Proof.Machine

/-! A call as a list of words (spec/20_memory.md R81, R92, R95): the words of a byte sequence, what decoding them one by
one gives, and `SeqCall` in these terms, with the laws of whole calls (R84, R95, R98). -/

namespace Sys2Proof.Machine
open Sys2Proof

/-! ### The words of a byte sequence (R81, R82) -/

/-- The words of a byte sequence, four bytes each; what is left over at the end is no word. -/
def wordsOf : List Byte → List Word
  | b0 :: b1 :: b2 :: b3 :: rest => wordOfBytes b0 b1 b2 b3 :: wordsOf rest
  | _ => []

theorem length_lt_four {bs : List Byte} (h : ∀ b0 b1 b2 b3 rest, bs = b0 :: b1 :: b2 :: b3 :: rest → False) :
    bs.length < 4 := by
  rcases bs with _ | ⟨b0, _ | ⟨b1, _ | ⟨b2, _ | ⟨b3, rest⟩⟩⟩⟩
  case cons.cons.cons.cons => exact (h b0 b1 b2 b3 rest rfl).elim
  all_goals simp

theorem wordsOf_length (bs : List Byte) : (wordsOf bs).length = bs.length / 4 := by
  induction bs using wordsOf.induct with
  | case1 b0 b1 b2 b3 rest ih =>
    simp only [wordsOf, List.length_cons, ih]
    omega
  | case2 bs hshort =>
    rw [wordsOf.eq_2 bs hshort, Nat.div_eq_of_lt (length_lt_four hshort)]
    rfl

/-- The words of a byte sequence are what the buffer reads (R80, R81). -/
theorem wordsOf_getElem? (bs : List Byte) (k : Nat) : (wordsOf bs)[k]? = (Memory.ofBytes bs).readWord (4 * k) := by
  simp only [Memory.readWord, Memory.read_ofBytes]
  induction bs using wordsOf.induct generalizing k with
  | case1 b0 b1 b2 b3 rest ih =>
    cases k with
    | zero => rfl
    | succ k => simpa [wordsOf, Nat.mul_succ] using ih k
  | case2 bs hshort =>
    have hlast : bs[4 * k + 3]? = none := List.getElem?_eq_none (by have := length_lt_four hshort; omega)
    simp [wordsOf.eq_2 bs hshort, hlast]

/-- A word is read from its own four bytes alone. -/
theorem wordsOf_congr {bs bs' : List Byte} {k k' : Nat} (h : ∀ j < 4, bs[4 * k + j]? = bs'[4 * k' + j]?) :
    (wordsOf bs)[k]? = (wordsOf bs')[k']? := by
  simp only [wordsOf_getElem?, Memory.readWord, Memory.read_ofBytes]
  rw [show bs[4 * k]? = _ from h 0 (by decide), h 1 (by decide), h 2 (by decide), h 3 (by decide)]
  rfl

theorem wordsOf_take (bs : List Byte) (n : Nat) : wordsOf (bs.take (4 * n)) = (wordsOf bs).take n := by
  apply List.ext_getElem?
  intro k
  by_cases hk : k < n
  · rw [List.getElem?_take_of_lt hk]
    exact wordsOf_congr fun j hj => List.getElem?_take_of_lt (by omega)
  · rw [List.getElem?_eq_none (by simp only [wordsOf_length, List.length_take]; omega),
      List.getElem?_eq_none (by simp only [List.length_take]; omega)]

theorem wordsOf_drop (bs : List Byte) (n : Nat) : wordsOf (bs.drop (4 * n)) = (wordsOf bs).drop n := by
  apply List.ext_getElem?
  intro k
  rw [List.getElem?_drop]
  refine wordsOf_congr fun j _ => ?_
  rw [List.getElem?_drop, Nat.mul_add, Nat.add_assoc]

/-! ### Decoding words one by one (R91, R92) -/

/-- `SeqWord` on the word `w` at the offset `i`, over the decode core (R91). -/
def wordResult (va : Addr) (flags : Flags) (i : Nat) (w : Word) : Except CallError Record :=
  seqRecord flags va i w (decodeFull w (dispatch w))

/-- What a run over words gives: the records before the first failing word, and that word's error. -/
structure Trace where
  records : List Record
  error : Option CallError

/-- The words from the offset `i` up, decoded until the first surfaced error (R92, R410). -/
def decodeWords (va : Addr) (flags : Flags) (i : Nat) : List Word → Trace
  | [] => ⟨[], none⟩
  | w :: ws =>
    match wordResult va flags i w with
    | .ok r => ⟨r :: (decodeWords va flags (i + 4) ws).records, (decodeWords va flags (i + 4) ws).error⟩
    | .error e => ⟨[], some e⟩

/-- The offset of the word at place `k + 1`, from the second word's offset. -/
theorem offset_succ (i k : Nat) : i + 4 + 4 * k = i + 4 * (k + 1) := by omega

section
variable {va : Addr} {flags : Flags} {i : Nat} {w : Word} {ws : List Word}

theorem decodeWords_ok {r : Record} (h : wordResult va flags i w = .ok r) :
    decodeWords va flags i (w :: ws) =
      ⟨r :: (decodeWords va flags (i + 4) ws).records, (decodeWords va flags (i + 4) ws).error⟩ := by
  simp only [decodeWords, h]

theorem decodeWords_error {e : CallError} (h : wordResult va flags i w = .error e) :
    decodeWords va flags i (w :: ws) = ⟨[], some e⟩ := by
  simp only [decodeWords, h]

/-- The record at a place is the one of the word at that place. -/
theorem decodeWords_getElem? {k : Nat} {r : Record} (h : (decodeWords va flags i ws).records[k]? = some r) :
    ∃ w, ws[k]? = some w ∧ wordResult va flags (i + 4 * k) w = .ok r := by
  induction ws generalizing i k with
  | nil => simp [decodeWords] at h
  | cons w ws ih =>
    cases hw : wordResult va flags i w with
    | error e => simp [decodeWords_error hw] at h
    | ok r0 =>
      rw [decodeWords_ok hw] at h
      cases k with
      | zero => exact ⟨w, rfl, by simpa [hw] using h⟩
      | succ k =>
        obtain ⟨w', hget, hres⟩ := ih h
        exact ⟨w', hget, offset_succ i k ▸ hres⟩

theorem decodeWords_length_le : (decodeWords va flags i ws).records.length ≤ ws.length := by
  induction ws generalizing i with
  | nil => simp [decodeWords]
  | cons w ws ih =>
    cases hw : wordResult va flags i w with
    | error e => simp [decodeWords_error hw]
    | ok r => simpa [decodeWords_ok hw] using ih

theorem decodeWords_length (h : (decodeWords va flags i ws).error = none) :
    (decodeWords va flags i ws).records.length = ws.length := by
  induction ws generalizing i with
  | nil => rfl
  | cons w ws ih =>
    cases hw : wordResult va flags i w with
    | error e => simp [decodeWords_error hw] at h
    | ok r =>
      rw [decodeWords_ok hw] at h ⊢
      simpa using ih h

/-- Words all of which have records decode to these. -/
theorem decodeWords_eq {rs : List Record} (hlen : rs.length = ws.length)
    (h : ∀ k w r, ws[k]? = some w → rs[k]? = some r → wordResult va flags (i + 4 * k) w = .ok r) :
    decodeWords va flags i ws = ⟨rs, none⟩ := by
  induction ws generalizing i rs with
  | nil =>
    obtain rfl := List.length_eq_zero_iff.mp hlen
    rfl
  | cons w ws ih =>
    cases rs with
    | nil => simp at hlen
    | cons r rs =>
      have htail : decodeWords va flags (i + 4) ws = ⟨rs, none⟩ := ih (by simpa using hlen) fun k w' r' hw hr => by
        have hres := h (k + 1) w' r' hw hr
        rwa [← offset_succ] at hres
      have hhead : wordResult va flags i w = .ok r := h 0 w r rfl rfl
      rw [decodeWords_ok hhead, htail]

/-- The error is that of the word after the last record. -/
theorem decodeWords_failing {e : CallError} (h : (decodeWords va flags i ws).error = some e) :
    ∃ w, ws[(decodeWords va flags i ws).records.length]? = some w ∧
      wordResult va flags (i + 4 * (decodeWords va flags i ws).records.length) w = .error e := by
  induction ws generalizing i with
  | nil => simp [decodeWords] at h
  | cons w ws ih =>
    cases hw : wordResult va flags i w with
    | error e0 =>
      rw [decodeWords_error hw] at h ⊢
      obtain rfl : e0 = e := by simpa using h
      exact ⟨w, rfl, hw⟩
    | ok r =>
      rw [decodeWords_ok hw] at h ⊢
      obtain ⟨w', hget, hres⟩ := ih h
      exact ⟨w', hget, offset_succ i _ ▸ hres⟩

end

/-! ### `SeqCall` over the words -/

/-- What the loop of R92 answers for a trace, with the records appended before it. -/
def Trace.answer (t : Trace) (out : List Record) : Except CallError (List Record) :=
  match t.error with
  | none => .ok (out ++ t.records)
  | some e => .error e

theorem seqLoop_eq (va : Addr) (flags : Flags) (i : Nat) (out : List Record) (bs : List Byte) :
    seqLoop va flags i out bs = (decodeWords va flags i (wordsOf bs)).answer out := by
  induction bs using wordsOf.induct generalizing i out with
  | case1 b0 b1 b2 b3 rest ih =>
    rw [wordsOf, seqLoop]
    cases hw : wordResult va flags i (wordOfBytes b0 b1 b2 b3) with
    | error e =>
      rw [decodeWords_error hw]
      rw [wordResult] at hw
      rw [hw]
      rfl
    | ok r =>
      rw [decodeWords_ok hw]
      rw [wordResult] at hw
      rw [hw]
      simp only [ih, Trace.answer, List.append_assoc, List.singleton_append]
  | case2 bs hshort =>
    rw [wordsOf.eq_2 bs hshort, seqLoop.eq_2 va flags i out bs hshort]
    simp [decodeWords, Trace.answer]

/-- The records and the error of a call's words, from offset 0 on. -/
def callTrace (bs : List Byte) (va : Addr) (flags : Flags) : Trace := decodeWords va flags 0 (wordsOf bs)

/-- A call returns where its words all have records. -/
theorem seqCall_ok_iff {bs : List Byte} {va v : Addr} {flags : Flags} {out : List Record} :
    seqCall bs va flags = .ok (out, v) ↔ bs.length % 4 = 0 ∧ callTrace bs va flags = ⟨out, none⟩ ∧ v = va := by
  rw [seqCall, seqLoop_eq, ← callTrace]
  by_cases hlen : bs.length % 4 = 0
  · rw [if_neg (by simpa using hlen)]
    rcases callTrace bs va flags with ⟨rs, _ | e⟩ <;> simp [Trace.answer, hlen, eq_comm]
  · simp [hlen]

/-- A call surfaces the Structural error, or the error of its first failing word (R410). -/
theorem seqCall_error_iff {bs : List Byte} {va : Addr} {flags : Flags} {e : CallError} :
    seqCall bs va flags = .error e ↔
      (bs.length % 4 ≠ 0 ∧ e = .structural bs.length) ∨ (bs.length % 4 = 0 ∧ (callTrace bs va flags).error = some e) := by
  rw [seqCall, seqLoop_eq, ← callTrace]
  by_cases hlen : bs.length % 4 = 0
  · rw [if_neg (by simpa using hlen)]
    rcases callTrace bs va flags with ⟨rs, _ | e⟩ <;> simp [Trace.answer, hlen]
  · simp [hlen, eq_comm]

/-! ### The laws of whole calls -/

/-- In a call that returns there is one record per word. -/
theorem callTrace_length {bs : List Byte} {va : Addr} {flags : Flags} {out : List Record}
    (h : callTrace bs va flags = ⟨out, none⟩) : out.length = (wordsOf bs).length := by
  rw [callTrace] at h
  simpa [h] using decodeWords_length (va := va) (flags := flags) (i := 0) (ws := wordsOf bs) (by rw [h])

/-- In a call that returns the record at a place is the one of the word there. -/
theorem callTrace_wordResult {bs : List Byte} {va : Addr} {flags : Flags} {out : List Record} {k : Nat} {w : Word}
    {r : Record} (h : callTrace bs va flags = ⟨out, none⟩) (hw : (wordsOf bs)[k]? = some w) (hr : out[k]? = some r) :
    wordResult va flags (4 * k) w = .ok r := by
  rw [callTrace] at h
  obtain ⟨w', hget, hres⟩ := decodeWords_getElem? (va := va) (flags := flags) (i := 0) (ws := wordsOf bs) (by rwa [h])
  obtain rfl : w = w' := Option.some.inj (hw.symm.trans hget)
  rwa [Nat.zero_add] at hres

/-- Every record that `SeqWord` delivers is stamped with the word's address (R84). -/
theorem seqRecord_ok_address {f : Flags} {va : Addr} {i : Nat} {w : Word} {d : DecodeResult} {r : Record}
    (h : seqRecord f va i w d = .ok r) : r.address = va + BitVec.ofNat 64 i := by
  rw [seqRecord] at h
  cases hrec : recordOf f va i w d with
  | error e => simp [hrec] at h
  | ok r0 =>
    simp only [hrec, finishRecord_eq] at h
    split at h <;> cases h
    exact deliveredRecord_address f va i r0

/-- Whether steps 3 and 4 of R91 give a record, and which, does not depend on the place. -/
theorem recordOf_ok_place {f : Flags} {va : Addr} {i : Nat} {w : Word} {d : DecodeResult} {r : Record}
    (h : recordOf f va i w d = .ok r) (va' : Addr) (i' : Nat) : recordOf f va' i' w d = .ok r := by
  cases d with
  | ok r0 => exact h
  | unimplemented kind => exact h
  | undefined reason => cases hc : f.continueOnError <;> simp_all [recordOf, onUndefined]
  | unexpected x => cases hc : f.continueOnError <;> simp_all [recordOf, onUnexpected]

/-- A word's record depends on its place through the address alone (R84, R95). -/
theorem wordResult_ok_place {va va' : Addr} {flags : Flags} {i i' : Nat} {w : Word} {r : Record}
    (h : wordResult va flags i w = .ok r) (hplace : va' + BitVec.ofNat 64 i' = va + BitVec.ofNat 64 i) :
    wordResult va' flags i' w = .ok r := by
  rw [wordResult, seqRecord] at h ⊢
  cases hrec : recordOf flags va i w (decodeFull w (dispatch w)) with
  | error e => simp [hrec] at h
  | ok r0 =>
    simp only [hrec, recordOf_ok_place hrec va' i', finishRecord_eq, deliveredRecord, hplace] at h ⊢
    split at h
    · cases h
    · next hthrow => rw [if_neg hthrow, h]

/-- Settles O44: one record per word, each stamped with its word's address. -/
theorem addressLawOfCalls : Obligations.AddressLawOfCalls := by
  intro bs va flags out v h
  obtain ⟨hlen, htrace, rfl⟩ := seqCall_ok_iff.mp h
  have hwords := callTrace_length htrace
  rw [wordsOf_length] at hwords
  refine ⟨rfl, by omega, fun k r hr => ?_⟩
  rw [callTrace] at htrace
  obtain ⟨w, -, hres⟩ := decodeWords_getElem? (va := v) (flags := flags) (i := 0) (ws := wordsOf bs) (by rwa [htrace])
  rw [seqRecord_ok_address hres, Nat.zero_add]

/-- Settles O46: both records are the one that the shared word has at its place. -/
theorem recordDependsOnItsOwnWordAlone : Obligations.RecordDependsOnItsOwnWordAlone := by
  intro bs bs' va flags out out' v v' h h' k hk hagree
  obtain ⟨-, htrace, -⟩ := seqCall_ok_iff.mp h
  obtain ⟨-, htrace', -⟩ := seqCall_ok_iff.mp h'
  have hword : (wordsOf bs)[k]? = (wordsOf bs')[k]? := wordsOf_congr hagree
  obtain ⟨w, hw⟩ : ∃ w, (wordsOf bs)[k]? = some w := ⟨_, List.getElem?_eq_getElem (by rw [wordsOf_length]; omega)⟩
  have hw' := hword ▸ hw
  obtain ⟨r, hr⟩ : ∃ r, out[k]? = some r :=
    ⟨_, List.getElem?_eq_getElem (callTrace_length htrace ▸ (List.getElem?_eq_some_iff.mp hw).1)⟩
  obtain ⟨r', hr'⟩ : ∃ r', out'[k]? = some r' :=
    ⟨_, List.getElem?_eq_getElem (callTrace_length htrace' ▸ (List.getElem?_eq_some_iff.mp hw').1)⟩
  have hsame : Except.ok r = Except.ok r' :=
    (callTrace_wordResult htrace hw hr).symm.trans (callTrace_wordResult htrace' hw' hr')
  cases hsame
  exact ⟨r, hr, hr'⟩

/-- Settles O43: each part's words are words of the whole, at the same addresses. -/
theorem partitionLaw : Obligations.PartitionLaw := by
  intro bs va flags out v a h ha hle
  obtain ⟨hlen, htrace, -⟩ := seqCall_ok_iff.mp h
  obtain ⟨n, rfl⟩ : ∃ n, a = 4 * n := ⟨a / 4, by omega⟩
  have hcount := callTrace_length htrace
  rw [Nat.mul_div_cancel_left n (by decide), seqCall_ok_iff, seqCall_ok_iff, callTrace, callTrace, wordsOf_take,
    wordsOf_drop]
  refine ⟨⟨by simp only [List.length_take]; omega, decodeWords_eq (by simp [hcount]) fun k w r hw hr => ?_, rfl⟩,
    by simp only [List.length_drop]; omega, decodeWords_eq (by simp [hcount]) fun k w r hw hr => ?_, rfl⟩
  · rw [List.getElem?_take] at hw hr
    split at hr
    · next hk =>
      rw [if_pos hk] at hw
      rw [Nat.zero_add]
      exact callTrace_wordResult htrace hw hr
    · cases hr
  · rw [List.getElem?_drop] at hw hr
    refine wordResult_ok_place (callTrace_wordResult htrace hw hr) ?_
    rw [Nat.zero_add, Nat.mul_add, BitVec.ofNat_add, BitVec.add_assoc]

end Sys2Proof.Machine

/-! The step machine against the words of its call (spec/20_memory.md R92–R94, 70_reset_and_hazards.md R455): a running
call ahead of a list of words takes one step a word, as the trace of these words says, and one more step to its end. -/

namespace Sys2Proof.Machine
open Sys2Proof

/-! ### A running call and the words before it -/

/-- The call is running, nobody wrote its buffer, and the words from `i` up to the end are `ws`. -/
structure State.Ahead (s : State) (ws : List Word) : Prop where
  unwritten : s.bufWritten = false
  running : s.status = .running
  aligned : s.i % 4 = 0
  checked : s.mem.len % 4 = 0
  inBuffer : s.i ≤ s.mem.len
  words : ∀ k, ws[k]? = s.mem.readWord (s.i + 4 * k)

theorem State.start_ahead (shape : Shape) {bs : List Byte} (va : Addr) (flags : Flags) (hlen : bs.length % 4 = 0) :
    (State.start shape bs va flags).Ahead (wordsOf bs) where
  unwritten := rfl
  running := rfl
  aligned := rfl
  checked := hlen
  inBuffer := Nat.zero_le _
  words k := by simp [wordsOf_getElem?]

section
variable {s : State} {w : Word} {ws : List Word}

theorem State.Ahead.head (h : s.Ahead (w :: ws)) : s.mem.readWord s.i = some w := (h.words 0).symm

theorem State.Ahead.step_nil (h : s.Ahead []) : step s = .next s.finish := by
  have hend : s.i = s.mem.len := by
    by_contra hne
    have hin := h.inBuffer
    have haligned := h.aligned
    have hchecked := h.checked
    obtain ⟨w, hw⟩ := Memory.exists_readWord (m := s.mem) (a := s.i) (by omega)
    exact absurd ((h.words 0).trans hw) (by simp)
  exact step_atEnd h.unwritten h.running hend h.checked

/-- The step of a word is `SeqWord` over the decode core, by the agreement of the two paths (O31). -/
theorem State.Ahead.step_cons (h : s.Ahead (w :: ws)) : step s = .next (s.seqWord w (dispatch w)) :=
  (step_word h.unwritten h.running h.aligned (fun _ => h.checked) h.head).trans (decodeWord_runsAs w s)

theorem State.Ahead.step_ok (h : s.Ahead (w :: ws)) {r : Record} (hw : wordResult s.va s.flags s.i w = .ok r) :
    step s = .next (s.append r) := by
  rw [wordResult] at hw
  simp only [h.step_cons, State.seqWord, hw]

theorem State.Ahead.step_error (h : s.Ahead (w :: ws)) {e : CallError} (hw : wordResult s.va s.flags s.i w = .error e) :
    step s = .next (s.surface e) := by
  rw [wordResult] at hw
  simp only [h.step_cons, State.seqWord, hw]

theorem State.Ahead.append (h : s.Ahead (w :: ws)) (r : Record) : (s.append r).Ahead ws where
  unwritten := h.unwritten
  running := h.running
  aligned := by simp [h.aligned]
  checked := h.checked
  inBuffer := Memory.readWord_some_bound h.head
  words k := by
    rw [State.append_mem, State.append_i, offset_succ]
    exact h.words (k + 1)

end

/-! ### Runs of the machine -/

theorem run_succ {s t : State} (h : step s = .next t) (n : Nat) :
    Sys2Proof.core.run (n + 1) s = Sys2Proof.core.run n t := by
  have hcore : Sys2Proof.core.step s = .next t := h
  simp only [Host.Core.run, hcore]

theorem run_add {s t : State} {n : Nat} (h : Sys2Proof.core.run n s = .next t) (m : Nat) :
    Sys2Proof.core.run (n + m) s = Sys2Proof.core.run m t := by
  induction n generalizing s with
  | zero =>
    cases h
    rw [Nat.zero_add]
  | succ n ih =>
    rw [Nat.succ_add]
    cases hs : step s with
    | next u =>
      rw [run_succ hs] at h ⊢
      exact ih h
    | fault f =>
      have hcore : Sys2Proof.core.step s = .fault f := hs
      simp [Host.Core.run, hcore] at h
    | refused f =>
      have hcore : Sys2Proof.core.step s = .refused f := hs
      simp [Host.Core.run, hcore] at h

/-- An eager call that has ended stays as it is (log entry 10). -/
theorem run_ended_eager {s : State} (hb : s.bufWritten = false) (hr : s.status ≠ .running) (hshape : s.shape = .eager)
    (n : Nat) : Sys2Proof.core.run n s = .next s := by
  have hstep : step s = .next s := by rw [step_ended hb hr, State.afterEnd_of_eager hshape]
  induction n with
  | zero => rfl
  | succ n ih => rw [run_succ hstep, ih]

/-- The state after the records `rs` have been appended one by one. -/
def State.appendAll (s : State) : List Record → State
  | [] => s
  | r :: rs => (s.append r).appendAll rs

theorem State.sameCall_appendAll (s : State) (rs : List Record) : s.SameCall (s.appendAll rs) := by
  induction rs generalizing s with
  | nil => exact ⟨rfl, rfl, rfl, rfl, rfl⟩
  | cons r rs ih =>
    obtain ⟨hmem, hva, hflags, hshape, hwritten⟩ := ih (s.append r)
    exact ⟨hmem, hva, hflags, hshape, hwritten⟩

theorem State.appendAll_out (s : State) (rs : List Record) : (s.appendAll rs).out = s.out ++ rs := by
  induction rs generalizing s with
  | nil => exact (List.append_nil _).symm
  | cons r rs ih => simp [State.appendAll, ih]

/-- The last step of a call: its end, or the surfaced error. -/
def State.close (s : State) : Option CallError → State
  | none => s.finish
  | some e => s.surface e

theorem State.sameCall_close (s : State) (x : Option CallError) : s.SameCall (s.close x) := by
  cases x with
  | none => exact s.sameCall_finish
  | some e => exact s.sameCall_surface e

theorem State.close_not_running (s : State) (x : Option CallError) : (s.close x).status ≠ .running := by
  cases x <;> nofun

/-- A running call takes a step for each record and one to close. -/
theorem State.Ahead.run {s : State} {ws : List Word} (h : s.Ahead ws) :
    Sys2Proof.core.run ((decodeWords s.va s.flags s.i ws).records.length + 1) s =
      .next ((s.appendAll (decodeWords s.va s.flags s.i ws).records).close
        (decodeWords s.va s.flags s.i ws).error) := by
  induction ws generalizing s with
  | nil => exact run_succ h.step_nil 0
  | cons w ws ih =>
    cases hw : wordResult s.va s.flags s.i w with
    | error e =>
      rw [decodeWords_error hw]
      exact run_succ (h.step_error hw) 0
    | ok r =>
      rw [decodeWords_ok hw, List.length_cons, run_succ (h.step_ok hw)]
      exact ih (h.append r)

/-! ### The eager shape -/

/-- An eager call ahead of `n` words has closed after `n + 1` steps, whether it returned or failed. -/
theorem State.Ahead.run_eager {s : State} {ws : List Word} (h : s.Ahead ws) (hshape : s.shape = .eager) :
    Sys2Proof.core.run (ws.length + 1) s =
      .next ((s.appendAll (decodeWords s.va s.flags s.i ws).records).close (decodeWords s.va s.flags s.i ws).error) := by
  obtain ⟨m, hm⟩ := Nat.exists_eq_add_of_le
    (decodeWords_length_le (va := s.va) (flags := s.flags) (i := s.i) (ws := ws))
  have happend := s.sameCall_appendAll (decodeWords s.va s.flags s.i ws).records
  have hclose := State.sameCall_close (s.appendAll (decodeWords s.va s.flags s.i ws).records)
    (decodeWords s.va s.flags s.i ws).error
  rw [hm, Nat.add_right_comm, run_add h.run]
  exact run_ended_eager (by rw [hclose.bufWritten, happend.bufWritten, h.unwritten]) (State.close_not_running _ _)
    (by rw [hclose.shape, happend.shape, hshape]) m

/-- The run of an eager call over a buffer that the Structural check lets through. -/
theorem run_start_eager {bs : List Byte} (va : Addr) (flags : Flags) (hlen : bs.length % 4 = 0) :
    Sys2Proof.core.run (bs.length / 4 + 1) (State.start .eager bs va flags) =
      .next (((State.start .eager bs va flags).appendAll (callTrace bs va flags).records).close
        (callTrace bs va flags).error) := by
  rw [← wordsOf_length]
  exact (State.start_ahead .eager va flags hlen).run_eager rfl

/-- Settles O41: the run follows the trace of the buffer's words, of which `SeqCall` is the answer. -/
theorem eagerRunIsSeqCall : Obligations.EagerRunIsSeqCall := by
  intro bs va flags
  have hshape (rs : List Record) : ((State.start .eager bs va flags).appendAll rs).shape = .eager :=
    (State.sameCall_appendAll _ rs).shape
  cases hcall : seqCall bs va flags with
  | ok answer =>
    obtain ⟨out, v⟩ := answer
    obtain ⟨hlen, htrace, rfl⟩ := seqCall_ok_iff.mp hcall
    refine ⟨_, run_start_eager v flags hlen, ?_⟩
    have hva := (State.sameCall_appendAll (State.start .eager bs v flags) out).va
    simp [htrace, State.close, State.appendAll_out, hshape, hva]
  | error e =>
    rcases seqCall_error_iff.mp hcall with ⟨hlen, rfl⟩ | ⟨hlen, herror⟩
    · have hstep := step_structural (s := State.start .eager bs va flags) rfl rfl rfl hlen
      exact ⟨_, (run_succ hstep _).trans (run_ended_eager rfl (by simp) rfl _), rfl, rfl, rfl⟩
    · refine ⟨_, run_start_eager va flags hlen, ?_⟩
      simp [herror, State.close, hshape]

/-! ### The lazy shape -/

/-- What the closing pull of a stream answers (R93). -/
def closingReply : Option CallError → Reply
  | none => .streamEnd
  | some e => .error e

theorem pulls_succ {s t : State} {n : Nat} {r : Reply} {rs : List Reply} (h : step s = .next t) (hr : t.reply = some r)
    (hrs : pulls n t = some rs) : pulls (n + 1) s = some (r :: rs) := by
  simp only [pulls, h, hr, hrs]

theorem pulls_one {s t : State} {r : Reply} (h : step s = .next t) (hr : t.reply = some r) : pulls 1 s = some [r] :=
  pulls_succ h hr rfl

/-- The pulls of a stream answer the records of its words one by one, and then its end. -/
theorem State.Ahead.pulls {s : State} {ws : List Word} (h : s.Ahead ws) (hshape : s.shape = .lazy) :
    Machine.pulls ((decodeWords s.va s.flags s.i ws).records.length + 1) s =
      some ((decodeWords s.va s.flags s.i ws).records.map .item ++
        [closingReply (decodeWords s.va s.flags s.i ws).error]) := by
  induction ws generalizing s with
  | nil => exact pulls_one h.step_nil (by rw [State.finish_reply, hshape]; rfl)
  | cons w ws ih =>
    cases hw : wordResult s.va s.flags s.i w with
    | error e =>
      rw [decodeWords_error hw]
      exact pulls_one (h.step_error hw) rfl
    | ok r =>
      rw [decodeWords_ok hw]
      exact pulls_succ (h.step_ok hw) (by rw [State.append_reply, hshape]) (ih (h.append r) hshape)

theorem pulls_start_lazy {bs : List Byte} (va : Addr) (flags : Flags) (hlen : bs.length % 4 = 0) :
    pulls ((callTrace bs va flags).records.length + 1) (State.start .lazy bs va flags) =
      some ((callTrace bs va flags).records.map .item ++ [closingReply (callTrace bs va flags).error]) :=
  (State.start_ahead .lazy va flags hlen).pulls rfl

/-- A call that surfaces an error at an offset has a record for each word before it, and returns these on the bytes
before it (R92, R411). -/
theorem seqCall_take_of_failing {bs : List Byte} {va : Addr} {flags : Flags} {e : CallError} (hlen : bs.length % 4 = 0)
    (h : (callTrace bs va flags).error = some e) :
    e.offset = some (4 * (callTrace bs va flags).records.length) ∧
      seqCall (bs.take (4 * (callTrace bs va flags).records.length)) va flags =
        .ok ((callTrace bs va flags).records, va) := by
  obtain ⟨w, hw, hres⟩ := decodeWords_failing h
  rw [← callTrace] at hw hres
  have hlt := (List.getElem?_eq_some_iff.mp hw).1
  rw [Nat.zero_add] at hres
  refine ⟨seqRecord_error_offset hres, seqCall_ok_iff.mpr ⟨?_, ?_, rfl⟩⟩
  · simp only [List.length_take]
    omega
  · rw [callTrace, wordsOf_take]
    refine decodeWords_eq (by simp only [List.length_take]; omega) fun k w' r hw' hr => ?_
    obtain ⟨w'', hw'', hres'⟩ := decodeWords_getElem? hr
    have hk := (List.getElem?_eq_some_iff.mp hr).1
    rw [List.getElem?_take_of_lt hk] at hw'
    obtain rfl : w' = w'' := Option.some.inj (hw'.symm.trans hw'')
    exact hres'

/-- Settles O42: the pulls answer the trace of the buffer's words, of which the eager call's answer is made (R94). -/
theorem lazyStreamAgreesWithEagerCall : Obligations.LazyStreamAgreesWithEagerCall := by
  intro bs va flags
  refine ⟨fun out v h => ?_, fun e o h ho => ?_, fun e h ho => ?_⟩
  · obtain ⟨hlen, htrace, -⟩ := seqCall_ok_iff.mp h
    simpa [htrace, closingReply] using pulls_start_lazy va flags hlen
  · rcases seqCall_error_iff.mp h with ⟨-, rfl⟩ | ⟨hlen, herror⟩
    · cases ho -- the Structural error names no offset
    · obtain ⟨hoffset, htake⟩ := seqCall_take_of_failing hlen herror
      obtain rfl := Option.some.inj (ho.symm.trans hoffset)
      exact ⟨_, htake, rfl, by simpa [herror, closingReply] using pulls_start_lazy va flags hlen⟩
  · rcases seqCall_error_iff.mp h with ⟨hlen, rfl⟩ | ⟨hlen, herror⟩
    · exact pulls_one (step_structural rfl rfl rfl hlen) rfl
    · rw [(seqCall_take_of_failing hlen herror).1] at ho -- every other error names one
      cases ho

end Sys2Proof.Machine

/-! The decoder and the encoder are inverse (spec/30_encoding.md R113–R116, R134): the lookup tables by their cells,
which node of the dispatch tree (40_dispatch.md R170–R174) a word reaches, and from these both round trips. -/

namespace Sys2Proof
open Machine

/-! ### The lookup tables by their cells (R122–R125) -/

/-- The cells that the tables list for an operation. -/
def LsOp.cells : LsOp → List Cell
  | .str => strCells
  | .ldr => ldrCells
  | .ldrsb => ldrsbCells
  | .ldrsh => ldrshCells
  | b => b.onlyCell.toList

/-- What is decided cell by cell holds of every cell. -/
theorem Cell.forall_iff {p : Cell → Prop} : (∀ c, p c) ↔ ∀ opc size v, p ⟨opc, size, v⟩ :=
  ⟨fun h _ _ _ => h _, fun h ⟨opc, size, v⟩ => h opc size v⟩

theorem lutUimm_eq_op_iff (c : Cell) (b : LsOp) : lutUimm c = .op b ↔ c ∈ b.cells := by
  revert c
  rw [Cell.forall_iff]
  cases b <;> decide

theorem lutUimm_eq_undefined_iff : ∀ c : Cell, lutUimm c = .undefined ↔ c ∈ undefCellsUimm := by
  rw [Cell.forall_iff]
  decide

theorem lutUimm_eq_prefetch_iff : ∀ c : Cell, lutUimm c = .prefetch ↔ c = ⟨0b11, 0b10, false⟩ := by
  rw [Cell.forall_iff]
  decide

theorem lutReg_eq_op_iff (c : Cell) (b : LsOp) : lutReg c = .op b ↔ c ∈ b.cells := by
  revert c
  rw [Cell.forall_iff]
  cases b <;> decide

theorem lutReg_eq_undefined_iff : ∀ c : Cell, lutReg c = .undefined ↔ c ∈ undefCellsRegoff := by
  rw [Cell.forall_iff]
  decide

theorem lutReg_eq_prefetch_iff : ∀ c : Cell, lutReg c = .prefetch ↔ c ∈ prfmRegoffCells := by
  rw [Cell.forall_iff]
  decide

theorem lutIdx_eq_op_iff (c : Cell) (b : LsOp) : lutIdx c = .op b ↔ c ∈ b.cells := by
  revert c
  rw [Cell.forall_iff]
  cases b <;> decide

theorem lutIdx_eq_undefined_iff : ∀ c : Cell, lutIdx c = .undefined ↔ c ∈ undefCellsIdx := by
  rw [Cell.forall_iff]
  decide

/-- `LUT_IDX` has no PRFM cell (R125). -/
theorem lutIdx_ne_prefetch : ∀ c : Cell, lutIdx c ≠ .prefetch := by
  rw [Cell.forall_iff]
  decide

/-! ### The node that a word reaches (R170–R174) -/

/-- `op0` is `I[31:30]` over `op0'` (R112). -/
theorem fOp0_eq_append (w : Word) : fOp0 w = fTop2 w ++ fOp0Low w :=
  (field_append_field (lo := 28) (n := 2) w 2 rfl).symm

theorem isLoadStore_iff_fT (w : Word) :
    isLoadStore w = true ↔ fT w = 0b0100 ∨ fT w = 0b0110 ∨ fT w = 0b1100 ∨ fT w = 0b1110 := by
  rw [Laws.isLoadStore_eq_fT]
  generalize fT w = t
  revert t
  decide

theorem decodeWord_of_isLoadStore {w : Word} (h : isLoadStore w = true) : decodeWord w = decodeLs w := by
  rcases (isLoadStore_iff_fT w).mp h with ht | ht | ht | ht <;> simp [decodeWord, ht]

theorem isSimdStruct_iff (w : Word) :
    isSimdStruct w = true ↔ isLoadStore w = true ∧ (fOp0 w = 0b0000 ∨ fOp0 w = 0b0100) := by
  simp [isSimdStruct]

theorem isMemoryTags_iff (w : Word) : isMemoryTags w = true ↔
    isLoadStore w = true ∧ fOp0 w = 0b1101 ∧ fV w = false ∧ fOp2h w = true ∧ fB21 w = true := by
  simp [isMemoryTags, and_assoc]

theorem isPair_iff (w : Word) : isPair w = true ↔ isLoadStore w = true ∧ fOp0Low w = 0b10 := by
  simp [isPair]

theorem isRegOrAtomic_iff (w : Word) : isRegOrAtomic w = true ↔ isLoadStore w = true ∧ fOp0Low w = 0b11 := by
  simp [isRegOrAtomic]

theorem decodeWord_of_isSimdStruct {w : Word} (h : isSimdStruct w = true) : decodeWord w = decodeSimdStruct w := by
  obtain ⟨hls, hop0⟩ := (isSimdStruct_iff w).mp h
  rw [decodeWord_of_isLoadStore hls]
  rcases hop0 with hop0 | hop0 <;> simp [decodeLs, hop0]

theorem decodeWord_of_isMemoryTags {w : Word} (h : isMemoryTags w = true) : decodeWord w = .unimplMemoryTags w := by
  obtain ⟨hls, hop0, hv, h24, h21⟩ := (isMemoryTags_iff w).mp h
  simp [decodeWord_of_isLoadStore hls, decodeLs, hop0, hv, h24, h21]

theorem decodeWord_of_exclusivePair {w : Word} (hls : isLoadStore w = true) (h : fOp0 w = 0b1000 ∨ fOp0 w = 0b1100) :
    decodeWord w = .unimplExclusivePair w := by
  rw [decodeWord_of_isLoadStore hls]
  rcases h with h | h <;> simp [decodeLs, h]

/-- Where the low half of `op0` is not 00, the two tests of `op0 & 1011` fail (R171). -/
theorem fOp0_and_ne {w : Word} (h : fOp0Low w ≠ 0b00) : fOp0 w &&& 0b1011 ≠ 0 ∧ fOp0 w &&& 0b1011 ≠ 0b1000 := by
  rw [fOp0_eq_append]
  generalize fOp0Low w = low at *
  generalize fTop2 w = top
  revert top low
  decide

/-- The low half of the memory-tags `op0` is 01 (R131). -/
theorem isMemoryTags_eq_false {w : Word} (h : fOp0Low w ≠ 0b01) : isMemoryTags w = false := by
  have hop0 : fOp0 w ≠ 0b1101 := by
    rw [fOp0_eq_append]
    generalize fOp0Low w = low at *
    generalize fTop2 w = top
    revert top low
    decide
  rw [← Bool.not_eq_true, isMemoryTags_iff]
  exact fun ⟨_, hc, _⟩ => hop0 hc

/-- The classifier's arms below the tests of the whole `op0` (R171). -/
theorem decodeWord_of_fOp0Low {w : Word} (hls : isLoadStore w = true) (h0 : fOp0Low w ≠ 0b00)
    (hmt : isMemoryTags w = false) : decodeWord w =
      if fOp0Low w = 0b01 then .unimplLdaprLiteralMemcpy w
      else if fOp0Low w = 0b10 then decodePairSelect w
      else decodeRegSelect w := by
  have hmt' : ¬(fOp0 w = 0b1101 ∧ fV w = false ∧ fOp2h w = true ∧ fB21 w = true) := fun hc =>
    Bool.false_ne_true (hmt.symm.trans ((isMemoryTags_iff w).mpr ⟨hls, hc⟩))
  obtain ⟨hsimd, hexcl⟩ := fOp0_and_ne h0
  rw [decodeWord_of_isLoadStore hls, decodeLs, if_neg hsimd, if_neg hmt', if_neg hexcl, if_neg h0]

theorem decodeWord_of_ldaprLiteralMemcpy {w : Word} (hls : isLoadStore w = true) (h : fOp0Low w = 0b01)
    (hmt : isMemoryTags w = false) : decodeWord w = .unimplLdaprLiteralMemcpy w := by
  rw [decodeWord_of_fOp0Low hls (by simp [h]) hmt, if_pos h]

theorem decodeWord_of_isPair {w : Word} (h : isPair w = true) : decodeWord w = decodePairSelect w := by
  obtain ⟨hls, hp⟩ := (isPair_iff w).mp h
  simp [decodeWord_of_fOp0Low hls, isMemoryTags_eq_false, hp]

theorem decodeWord_of_isRegOrAtomic {w : Word} (h : isRegOrAtomic w = true) : decodeWord w = decodeRegSelect w := by
  obtain ⟨hls, hr⟩ := (isRegOrAtomic_iff w).mp h
  simp [decodeWord_of_fOp0Low hls, isMemoryTags_eq_false, hr]

/-! ### The words that are carried whole, by their conditions (R130–R133, R401, R402)

Each cause of an Undefined, Unimplemented or delegated word as a conjunction of its field conditions. -/

theorem wf_undefReservedGroup (w : Word) : (Instr.undefReservedGroup w).wf = true ↔
    bitAt w 31 = false ∧ fT w = 0b0000 := by
  simp [Instr.wf]

theorem wf_undefUnallocatedType (w : Word) : (Instr.undefUnallocatedType w).wf = true ↔
    fT w = 0b0001 ∨ fT w = 0b0011 := by
  simp [Instr.wf]

theorem wf_undefSimdLsStruct (w : Word) : (Instr.undefSimdLsStruct w).wf = true ↔
    isSimdStruct w = true ∧ fOp2 w ≠ 0b11 ∧ fOp3Low w ≠ 0b00000 := by
  simp [Instr.wf, and_assoc]

theorem wf_undefPairOpc11 (w : Word) : (Instr.undefPairOpc11 w).wf = true ↔
    isPair w = true ∧ fOp2 w ≠ 0b00 ∧ fTop2 w = 0b11 := by
  simp [Instr.wf, and_assoc]

theorem wf_undefLsUimmCell (w : Word) : (Instr.undefLsUimmCell w).wf = true ↔
    isRegOrAtomic w = true ∧ fOp2h w = true ∧ fCell w ∈ undefCellsUimm := by
  simp [Instr.wf, and_assoc]

theorem wf_undefLsRegoffCell (w : Word) : (Instr.undefLsRegoffCell w).wf = true ↔
    isRegOrAtomic w = true ∧ fOp2h w = false ∧ fB21 w = true ∧ fOp4 w = 0b10 ∧ fCell w ∈ undefCellsRegoff := by
  simp [Instr.wf, and_assoc]

theorem wf_undefLsUnscaledCell (w : Word) : (Instr.undefLsUnscaledCell w).wf = true ↔
    isRegOrAtomic w = true ∧ fOp2h w = false ∧ fB21 w = false ∧ fOp4 w = 0b00 ∧ fCell w ∈ undefCellsUimm := by
  simp [Instr.wf, and_assoc]

theorem wf_undefLsIndexedCell (w : Word) : (Instr.undefLsIndexedCell w).wf = true ↔
    isRegOrAtomic w = true ∧ fOp2h w = false ∧ fB21 w = false ∧ (fOp4 w = 0b01 ∨ fOp4 w = 0b11) ∧
      fCell w ∈ undefCellsIdx := by
  simp [Instr.wf, and_assoc]

theorem wf_unimplSme (w : Word) : (Instr.unimplSme w).wf = true ↔
    bitAt w 31 = true ∧ fT w = 0b0000 := by
  simp [Instr.wf]

theorem wf_unimplExclusivePair (w : Word) : (Instr.unimplExclusivePair w).wf = true ↔
    isLoadStore w = true ∧ (fOp0 w = 0b1000 ∨ fOp0 w = 0b1100) := by
  simp [Instr.wf]

theorem wf_unimplExclOrderedCas (w : Word) : (Instr.unimplExclOrderedCas w).wf = true ↔
    isLoadStore w = true ∧ fOp0Low w = 0b00 ∧ isSimdStruct w = false ∧ ¬(fOp0 w = 0b1000 ∨ fOp0 w = 0b1100) := by
  simp [Instr.wf, and_assoc]

theorem wf_unimplLdaprLiteralMemcpy (w : Word) : (Instr.unimplLdaprLiteralMemcpy w).wf = true ↔
    isLoadStore w = true ∧ fOp0Low w = 0b01 ∧ isMemoryTags w = false := by
  simp [Instr.wf, and_assoc]

theorem wf_unimplNoallocPair (w : Word) : (Instr.unimplNoallocPair w).wf = true ↔
    isPair w = true ∧ fOp2 w = 0b00 := by
  simp [Instr.wf]

theorem wf_unimplAtomic (w : Word) : (Instr.unimplAtomic w).wf = true ↔
    isRegOrAtomic w = true ∧ fOp2h w = false ∧ fB21 w = true ∧ fOp4 w = 0b00 := by
  simp [Instr.wf, and_assoc]

theorem wf_unimplPac (w : Word) : (Instr.unimplPac w).wf = true ↔
    isRegOrAtomic w = true ∧ fOp2h w = false ∧ fB21 w = true ∧ (fOp4 w = 0b01 ∨ fOp4 w = 0b11) := by
  simp [Instr.wf, and_assoc]

theorem wf_unimplUnprivileged (w : Word) : (Instr.unimplUnprivileged w).wf = true ↔
    isRegOrAtomic w = true ∧ fOp2h w = false ∧ fB21 w = false ∧ fOp4 w = 0b10 := by
  simp [Instr.wf, and_assoc]

theorem wf_delegateSve (w : Word) : (Instr.delegateSve w).wf = true ↔
    fT w = 0b0010 := by
  simp [Instr.wf]

theorem wf_delegateDpi (w : Word) : (Instr.delegateDpi w).wf = true ↔
    fT w = 0b1000 ∨ fT w = 0b1001 := by
  simp [Instr.wf]

theorem wf_delegateBes (w : Word) : (Instr.delegateBes w).wf = true ↔
    fT w = 0b1010 ∨ fT w = 0b1011 := by
  simp [Instr.wf]

theorem wf_delegateDpr (w : Word) : (Instr.delegateDpr w).wf = true ↔
    fT w = 0b0101 ∨ fT w = 0b1101 := by
  simp [Instr.wf]

theorem wf_delegateSimd (w : Word) : (Instr.delegateSimd w).wf = true ↔
    fT w = 0b0111 ∨ fT w = 0b1111 := by
  simp [Instr.wf]

theorem wf_delegateSimdLsSingle (w : Word) : (Instr.delegateSimdLsSingle w).wf = true ↔
    isSimdStruct w = true ∧ fOp2 w ≠ 0b11 ∧ fOp3Low w = 0b00000 := by
  simp [Instr.wf, and_assoc]

theorem wf_delegateSimdLsSinglePost (w : Word) : (Instr.delegateSimdLsSinglePost w).wf = true ↔
    isSimdStruct w = true ∧ fOp2 w = 0b11 := by
  simp [Instr.wf]

/-! ### Every word reads as its own instruction (R134, R176) -/

/-- The instruction `i` is well-formed, and `w` is its word. -/
structure Instr.Reads (i : Instr) (w : Word) : Prop where
  wf : i.wf = true
  word : encode i = w

/-- A node of the decoder. -/
theorem Instr.Reads.ite {c : Prop} [Decidable c] {i j : Instr} {w : Word} (hpos : c → i.Reads w)
    (hneg : ¬c → j.Reads w) : (if c then i else j).Reads w := by
  split
  · next h => exact hpos h
  · next h => exact hneg h

theorem mem_pairCells_iff : ∀ (opc : BitVec 2) (v : Bool),
    (opc, v) ∈ pairCells ↔ opc ≠ 0b11#2 ∧ ¬(opc = 0b01#2 ∧ v = false) := by decide

theorem decodePair_reads {w : Word} {mode : MemMode} (hpair : isPair w = true) (hmode : fOp2 w = pairModeBits mode) :
    (decodePair mode w).Reads w := by
  obtain ⟨hls, hp⟩ := (isPair_iff w).mp hpair
  have henc := encodePair_fields hls hp
  rw [hmode] at henc
  refine .ite (fun h11 => ⟨?_, rfl⟩) fun h11 => .ite (fun hc => ?_) fun hc => ?_
  · exact (wf_undefPairOpc11 w).mpr ⟨hpair, by rw [hmode]; cases mode <;> decide, h11⟩
  · rw [hc.1, hc.2] at henc
    cases hl : fL w <;> rw [hl] at henc <;> cases mode <;> exact ⟨rfl, henc⟩
  · have hcell := decide_eq_true ((mem_pairCells_iff (fTop2 w) (fV w)).mpr ⟨h11, hc⟩)
    cases hl : fL w <;> rw [hl] at henc <;> cases mode <;> exact ⟨hcell, henc⟩

theorem decodeUimm_reads {w : Word} (hr : isRegOrAtomic w = true) (h24 : fOp2h w = true) : (decodeUimm w).Reads w := by
  obtain ⟨hls, hlow⟩ := (isRegOrAtomic_iff w).mp hr
  have henc := encodeUimm_fields hls hlow h24
  unfold decodeUimm
  cases hlut : lutUimm (fCell w) with
  | undefined => exact ⟨(wf_undefLsUimmCell w).mpr ⟨hr, h24, (lutUimm_eq_undefined_iff _).mp hlut⟩, rfl⟩
  | prefetch =>
    rw [cell_of_lutUimm_prefetch hlut] at henc
    exact ⟨rfl, henc⟩
  | op b =>
    have hcell := decide_eq_true ((lutUimm_eq_op_iff _ _).mp hlut)
    rw [← onlyCell_getD hlut] at henc hcell ⊢
    cases b
    case str | ldr | ldrsb | ldrsh => exact ⟨hcell, henc⟩
    all_goals exact ⟨rfl, henc⟩

theorem decodeRegoff_reads {w : Word} (hr : isRegOrAtomic w = true) (h24 : fOp2h w = false) (h21 : fB21 w = true)
    (hop4 : fOp4 w = 0b10) : (decodeRegoff w).Reads w := by
  obtain ⟨hls, hlow⟩ := (isRegOrAtomic_iff w).mp hr
  have henc := encodeRegoff_fields hls hlow h24 h21 hop4
  unfold decodeRegoff
  cases hlut : lutReg (fCell w) with
  | undefined => exact ⟨(wf_undefLsRegoffCell w).mpr ⟨hr, h24, h21, hop4, (lutReg_eq_undefined_iff _).mp hlut⟩, rfl⟩
  | prefetch => exact ⟨decide_eq_true ((lutReg_eq_prefetch_iff _).mp hlut), henc⟩
  | op b =>
    have hcell := decide_eq_true ((lutReg_eq_op_iff _ _).mp hlut)
    rw [← onlyCell_getD (lutUimm_of_lutReg hlut)] at henc hcell ⊢
    cases b
    case str | ldr | ldrsb | ldrsh => exact ⟨hcell, henc⟩
    all_goals exact ⟨rfl, henc⟩

theorem decodeUnsc_reads {w : Word} (hr : isRegOrAtomic w = true) (h24 : fOp2h w = false) (h21 : fB21 w = false)
    (hop4 : fOp4 w = 0b00) : (decodeUnsc w).Reads w := by
  obtain ⟨hls, hlow⟩ := (isRegOrAtomic_iff w).mp hr
  have henc := encodeImm9_fields hls hlow h24 h21
  rw [hop4] at henc
  unfold decodeUnsc
  cases hlut : lutUnsc (fCell w) with
  | undefined => exact ⟨(wf_undefLsUnscaledCell w).mpr ⟨hr, h24, h21, hop4, (lutUimm_eq_undefined_iff _).mp hlut⟩, rfl⟩
  | prefetch =>
    rw [cell_of_lutUimm_prefetch hlut] at henc
    exact ⟨rfl, henc⟩
  | op b =>
    have hcell := decide_eq_true ((lutUimm_eq_op_iff _ _).mp hlut)
    rw [← onlyCell_getD hlut] at henc hcell ⊢
    cases b
    case str | ldr | ldrsb | ldrsh => exact ⟨hcell, henc⟩
    all_goals exact ⟨rfl, henc⟩

theorem decodePost_reads {w : Word} (hr : isRegOrAtomic w = true) (h24 : fOp2h w = false) (h21 : fB21 w = false)
    (hop4 : fOp4 w = 0b01) : (decodePost w).Reads w := by
  obtain ⟨hls, hlow⟩ := (isRegOrAtomic_iff w).mp hr
  have henc := encodeImm9_fields hls hlow h24 h21
  rw [hop4] at henc
  unfold decodePost
  cases hlut : lutIdx (fCell w) with
  | undefined =>
    exact ⟨(wf_undefLsIndexedCell w).mpr ⟨hr, h24, h21, .inl hop4, (lutIdx_eq_undefined_iff _).mp hlut⟩, rfl⟩
  | prefetch => exact absurd hlut (lutIdx_ne_prefetch _)
  | op b =>
    have hcell := decide_eq_true ((lutIdx_eq_op_iff _ _).mp hlut)
    rw [← onlyCell_getD (lutUimm_of_lutIdx hlut)] at henc hcell ⊢
    cases b
    case str | ldr | ldrsb | ldrsh => exact ⟨hcell, henc⟩
    all_goals exact ⟨rfl, henc⟩

theorem decodePre_reads {w : Word} (hr : isRegOrAtomic w = true) (h24 : fOp2h w = false) (h21 : fB21 w = false)
    (hop4 : fOp4 w = 0b11) : (decodePre w).Reads w := by
  obtain ⟨hls, hlow⟩ := (isRegOrAtomic_iff w).mp hr
  have henc := encodeImm9_fields hls hlow h24 h21
  rw [hop4] at henc
  unfold decodePre
  cases hlut : lutIdx (fCell w) with
  | undefined =>
    exact ⟨(wf_undefLsIndexedCell w).mpr ⟨hr, h24, h21, .inr hop4, (lutIdx_eq_undefined_iff _).mp hlut⟩, rfl⟩
  | prefetch => exact absurd hlut (lutIdx_ne_prefetch _)
  | op b =>
    have hcell := decide_eq_true ((lutIdx_eq_op_iff _ _).mp hlut)
    rw [← onlyCell_getD (lutUimm_of_lutIdx hlut)] at henc hcell ⊢
    cases b
    case str | ldr | ldrsb | ldrsh => exact ⟨hcell, henc⟩
    all_goals exact ⟨rfl, henc⟩

theorem decodeSimdStruct_reads {w : Word} (h : isSimdStruct w = true) : (decodeSimdStruct w).Reads w :=
  .ite (fun h3 => ⟨(wf_delegateSimdLsSinglePost w).mpr ⟨h, h3⟩, rfl⟩) fun h3 =>
    .ite (fun h0 => ⟨(wf_delegateSimdLsSingle w).mpr ⟨h, h3, h0⟩, rfl⟩) fun h0 =>
      ⟨(wf_undefSimdLsStruct w).mpr ⟨h, h3, h0⟩, rfl⟩

theorem decodePairSelect_reads {w : Word} (h : isPair w = true) : (decodePairSelect w).Reads w :=
  .ite (fun h0 => ⟨(wf_unimplNoallocPair w).mpr ⟨h, h0⟩, rfl⟩) fun h0 =>
    .ite (decodePair_reads (mode := .postIndex) h) fun h1 => .ite (decodePair_reads (mode := .offset) h) fun h2 =>
      decodePair_reads h (eq_three_of_ne h0 h1 h2)

theorem decodeRegSelect_reads {w : Word} (h : isRegOrAtomic w = true) : (decodeRegSelect w).Reads w := by
  refine .ite (decodeUimm_reads h) fun h24 => .ite (fun h21 => ?_) fun h21 => ?_
  all_goals rw [Bool.not_eq_true] at h24
  · refine .ite (fun h0 => ⟨(wf_unimplAtomic w).mpr ⟨h, h24, h21, h0⟩, rfl⟩) fun h0 =>
      .ite (decodeRegoff_reads h h24 h21) fun h2 => ⟨(wf_unimplPac w).mpr ⟨h, h24, h21, ?_⟩, rfl⟩
    exact or_iff_not_imp_left.mpr fun h1 => eq_three_of_ne h0 h1 h2
  · rw [Bool.not_eq_true] at h21
    exact .ite (decodeUnsc_reads h h24 h21) fun h0 => .ite (decodePost_reads h h24 h21) fun h1 =>
      .ite (fun h2 => ⟨(wf_unimplUnprivileged w).mpr ⟨h, h24, h21, h2⟩, rfl⟩) fun h2 =>
        decodePre_reads h h24 h21 (eq_three_of_ne h0 h1 h2)

/-- The tests of `op0 & 1011` name two values of `op0` each (R171). -/
theorem fOp0_and_cases : ∀ x : BitVec 4,
    (x &&& 0b1011 = 0 ↔ x = 0b0000 ∨ x = 0b0100) ∧ (x &&& 0b1011 = 0b1000 ↔ x = 0b1000 ∨ x = 0b1100) := by decide

/-- No word reaches the arm of EXCL_ORDERED_CAS (R175). -/
theorem fOp0Low_ne_zero {w : Word} (hs : fOp0 w &&& 0b1011 ≠ 0) (he : fOp0 w &&& 0b1011 ≠ 0b1000) :
    fOp0Low w ≠ 0b00 := by
  rw [fOp0_eq_append] at hs he
  generalize fOp0Low w = low at *
  generalize fTop2 w = top at *
  revert top low
  decide

theorem decodeLs_reads {w : Word} (hls : isLoadStore w = true) : (decodeLs w).Reads w := by
  have hop0 := fOp0_and_cases (fOp0 w)
  refine .ite (fun hs => decodeSimdStruct_reads ((isSimdStruct_iff w).mpr ⟨hls, hop0.1.mp hs⟩)) fun hs =>
    .ite (fun ht => ⟨(isMemoryTags_iff w).mpr ⟨hls, ht⟩, rfl⟩) fun ht =>
    .ite (fun he => ⟨(wf_unimplExclusivePair w).mpr ⟨hls, hop0.2.mp he⟩, rfl⟩) fun he =>
    .ite (fun h0 => absurd h0 (fOp0Low_ne_zero hs he)) fun h0 =>
    .ite (fun h1 => ⟨(wf_unimplLdaprLiteralMemcpy w).mpr ⟨hls, h1, ?_⟩, rfl⟩) fun h1 =>
    .ite (fun h2 => decodePairSelect_reads ((isPair_iff w).mpr ⟨hls, h2⟩)) fun h2 =>
      decodeRegSelect_reads ((isRegOrAtomic_iff w).mpr ⟨hls, eq_three_of_ne h0 h1 h2⟩)
  rw [← Bool.not_eq_true, isMemoryTags_iff]
  exact fun hmt => ht hmt.2

/-- A type below none of the router's tests is the Otherwise arm's (R170). -/
theorem fT_simd_of_ne : ∀ t : BitVec 4, ¬(t = 0b0001 ∨ t = 0b0011) → t ≠ 0b0000 → t ≠ 0b0010 →
    ¬(t = 0b1000 ∨ t = 0b1001) → ¬(t = 0b1010 ∨ t = 0b1011) →
    ¬(t = 0b0100 ∨ t = 0b0110 ∨ t = 0b1100 ∨ t = 0b1110) → ¬(t = 0b0101 ∨ t = 0b1101) → t = 0b0111 ∨ t = 0b1111 := by
  decide

theorem decodeWord_reads (w : Word) : (decodeWord w).Reads w := by
  refine .ite (fun h => ⟨(wf_undefReservedGroup w).mpr h, rfl⟩) fun hres =>
    .ite (fun h => ⟨(wf_undefUnallocatedType w).mpr h, rfl⟩) fun hunalloc =>
    .ite (fun h => ⟨(wf_unimplSme w).mpr ⟨?_, h⟩, rfl⟩) fun hsme =>
    .ite (fun h => ⟨(wf_delegateSve w).mpr h, rfl⟩) fun hsve =>
    .ite (fun h => ⟨(wf_delegateDpi w).mpr h, rfl⟩) fun hdpi =>
    .ite (fun h => ⟨(wf_delegateBes w).mpr h, rfl⟩) fun hbes =>
    .ite (fun h => decodeLs_reads (isLoadStore_of_fT h)) fun hls =>
    .ite (fun h => ⟨(wf_delegateDpr w).mpr h, rfl⟩) fun hdpr =>
      ⟨(wf_delegateSimd w).mpr (fT_simd_of_ne _ hunalloc hsme hsve hdpi hbes hls hdpr), rfl⟩
  rw [← Bool.not_eq_false]
  exact fun hbit => hres ⟨hbit, h⟩

/-- Settles O55, node for node of the dispatch tree. -/
theorem encodeOfDecode : Obligations.EncodeOfDecode :=
  fun w => ⟨(decodeWord_reads w).wf, (decodeWord_reads w).word⟩

/-! ### Every well-formed instruction is read from its own word (R113–R116) -/

@[simp] theorem isPair_encodePair (opc : BitVec 2) (v : Bool) (op2 : BitVec 2) (l : Bool) (imm7 : BitVec 7)
    (rt2 rn rt : RegIx) : isPair (encodePair opc v op2 l imm7 rt2 rn rt) = true := by
  simp [isPair]

@[simp] theorem isRegOrAtomic_encodeUimm (c : Cell) (imm12 : BitVec 12) (rn rt : RegIx) :
    isRegOrAtomic (encodeUimm c imm12 rn rt) = true := by
  simp [isRegOrAtomic]

@[simp] theorem isRegOrAtomic_encodeRegoff (c : Cell) (rm : RegIx) (option : BitVec 3) (s : Bool) (rn rt : RegIx) :
    isRegOrAtomic (encodeRegoff c rm option s rn rt) = true := by
  simp [isRegOrAtomic]

@[simp] theorem isRegOrAtomic_encodeImm9 (c : Cell) (imm9 : BitVec 9) (op4 : BitVec 2) (rn rt : RegIx) :
    isRegOrAtomic (encodeImm9 c imm9 op4 rn rt) = true := by
  simp [isRegOrAtomic]

section
variable (c : Cell) (opc : BitVec 2) (v l : Bool) (imm7 : BitVec 7) (imm9 : BitVec 9) (imm12 : BitVec 12)
  (rt2 rm : RegIx) (option : BitVec 3) (s : Bool) (rn rt : RegIx)

theorem decodeWord_encodePair (mode : MemMode) :
    decodeWord (encodePair opc v (pairModeBits mode) l imm7 rt2 rn rt) =
      decodePair mode (encodePair opc v (pairModeBits mode) l imm7 rt2 rn rt) := by
  rw [decodeWord_of_isPair (by simp)]
  cases mode <;> simp [decodePairSelect, pairModeBits]

theorem decodeWord_encodeUimm : decodeWord (encodeUimm c imm12 rn rt) = decodeUimm (encodeUimm c imm12 rn rt) := by
  rw [decodeWord_of_isRegOrAtomic (by simp)]
  simp [decodeRegSelect]

theorem decodeWord_encodeRegoff :
    decodeWord (encodeRegoff c rm option s rn rt) = decodeRegoff (encodeRegoff c rm option s rn rt) := by
  rw [decodeWord_of_isRegOrAtomic (by simp)]
  simp [decodeRegSelect]

theorem decodeWord_encodeUnsc :
    decodeWord (encodeImm9 c imm9 0b00 rn rt) = decodeUnsc (encodeImm9 c imm9 0b00 rn rt) := by
  rw [decodeWord_of_isRegOrAtomic (by simp)]
  simp [decodeRegSelect]

theorem decodeWord_encodePost :
    decodeWord (encodeImm9 c imm9 0b01 rn rt) = decodePost (encodeImm9 c imm9 0b01 rn rt) := by
  rw [decodeWord_of_isRegOrAtomic (by simp)]
  simp [decodeRegSelect]

theorem decodeWord_encodePre :
    decodeWord (encodeImm9 c imm9 0b11 rn rt) = decodePre (encodeImm9 c imm9 0b11 rn rt) := by
  rw [decodeWord_of_isRegOrAtomic (by simp)]
  simp [decodeRegSelect]

end

/-! The operations of several cells, which the decoder looks up in the cell operand. -/

theorem lutUimm_of_cells (c : Cell) :
    (c ∈ strCells → lutUimm c = .op .str) ∧ (c ∈ ldrCells → lutUimm c = .op .ldr) ∧
      (c ∈ ldrsbCells → lutUimm c = .op .ldrsb) ∧ (c ∈ ldrshCells → lutUimm c = .op .ldrsh) :=
  ⟨(lutUimm_eq_op_iff c .str).mpr, (lutUimm_eq_op_iff c .ldr).mpr, (lutUimm_eq_op_iff c .ldrsb).mpr,
    (lutUimm_eq_op_iff c .ldrsh).mpr⟩

theorem lutReg_of_cells (c : Cell) :
    (c ∈ strCells → lutReg c = .op .str) ∧ (c ∈ ldrCells → lutReg c = .op .ldr) ∧
      (c ∈ ldrsbCells → lutReg c = .op .ldrsb) ∧ (c ∈ ldrshCells → lutReg c = .op .ldrsh) :=
  ⟨(lutReg_eq_op_iff c .str).mpr, (lutReg_eq_op_iff c .ldr).mpr, (lutReg_eq_op_iff c .ldrsb).mpr,
    (lutReg_eq_op_iff c .ldrsh).mpr⟩

theorem lutIdx_of_cells (c : Cell) :
    (c ∈ strCells → lutIdx c = .op .str) ∧ (c ∈ ldrCells → lutIdx c = .op .ldr) ∧
      (c ∈ ldrsbCells → lutIdx c = .op .ldrsb) ∧ (c ∈ ldrshCells → lutIdx c = .op .ldrsh) :=
  ⟨(lutIdx_eq_op_iff c .str).mpr, (lutIdx_eq_op_iff c .ldr).mpr, (lutIdx_eq_op_iff c .ldrsb).mpr,
    (lutIdx_eq_op_iff c .ldrsh).mpr⟩

/-- No word is well-formed for EXCL_ORDERED_CAS (R175, log entry 14). -/
theorem not_wf_unimplExclOrderedCas (w : Word) : (Instr.unimplExclOrderedCas w).wf ≠ true := by
  intro h
  obtain ⟨hls, h0, hs, he⟩ := (wf_unimplExclOrderedCas w).mp h
  have hop0 := fOp0_and_cases (fOp0 w)
  have hs' : fOp0 w &&& 0b1011 ≠ 0 := fun hc =>
    Bool.false_ne_true (hs.symm.trans ((isSimdStruct_iff w).mpr ⟨hls, hop0.1.mp hc⟩))
  exact fOp0Low_ne_zero hs' (fun hc => he (hop0.2.mp hc)) h0

/-- Settles O54: format for format, and for a word carried whole by the node that its conditions lead to. -/
theorem decodeOfEncode : Obligations.DecodeOfEncode := by
  intro i hi
  cases i with
  -- R113
  | stpPost opc v | ldpPost opc v =>
    obtain ⟨h11, hc⟩ := (mem_pairCells_iff opc v).mp (of_decide_eq_true hi)
    exact (decodeWord_encodePair (mode := .postIndex) ..).trans (by simp [decodePair, h11, hc])
  | stpOffset opc v | ldpOffset opc v =>
    obtain ⟨h11, hc⟩ := (mem_pairCells_iff opc v).mp (of_decide_eq_true hi)
    exact (decodeWord_encodePair (mode := .offset) ..).trans (by simp [decodePair, h11, hc])
  | stpPre opc v | ldpPre opc v =>
    obtain ⟨h11, hc⟩ := (mem_pairCells_iff opc v).mp (of_decide_eq_true hi)
    exact (decodeWord_encodePair (mode := .preIndex) ..).trans (by simp [decodePair, h11, hc])
  | stgpPost | ldpswPost => exact (decodeWord_encodePair (mode := .postIndex) ..).trans (by simp [decodePair])
  | stgpOffset | ldpswOffset => exact (decodeWord_encodePair (mode := .offset) ..).trans (by simp [decodePair])
  | stgpPre | ldpswPre => exact (decodeWord_encodePair (mode := .preIndex) ..).trans (by simp [decodePair])
  -- R114
  | strbUimm | strhUimm | ldrbUimm | ldrhUimm | ldrswUimm | prfmUimm =>
    exact (decodeWord_encodeUimm ..).trans (by simp [decodeUimm, lutUimm])
  | strUimm | ldrUimm | ldrsbUimm | ldrshUimm =>
    exact (decodeWord_encodeUimm ..).trans (by simp [decodeUimm, lutUimm_of_cells, of_decide_eq_true hi])
  -- R115
  | strbRegoff | strhRegoff | ldrbRegoff | ldrhRegoff | ldrswRegoff =>
    exact (decodeWord_encodeRegoff ..).trans (by simp [decodeRegoff, lutReg, lutUimm])
  | strRegoff | ldrRegoff | ldrsbRegoff | ldrshRegoff =>
    exact (decodeWord_encodeRegoff ..).trans (by simp [decodeRegoff, lutReg_of_cells, of_decide_eq_true hi])
  | prfmRegoff c =>
    exact (decodeWord_encodeRegoff ..).trans
      (by simp [decodeRegoff, (lutReg_eq_prefetch_iff c).mpr (of_decide_eq_true hi)])
  -- R116
  | sturb | sturh | ldurb | ldurh | ldursw | prfum =>
    exact (decodeWord_encodeUnsc ..).trans (by simp [decodeUnsc, lutUnsc, lutUimm])
  | stur | ldur | ldursb | ldursh =>
    exact (decodeWord_encodeUnsc ..).trans (by simp [decodeUnsc, lutUnsc, lutUimm_of_cells, of_decide_eq_true hi])
  | strbPost | strhPost | ldrbPost | ldrhPost | ldrswPost =>
    exact (decodeWord_encodePost ..).trans (by simp [decodePost, lutIdx, lutUimm])
  | strPost | ldrPost | ldrsbPost | ldrshPost =>
    exact (decodeWord_encodePost ..).trans (by simp [decodePost, lutIdx_of_cells, of_decide_eq_true hi])
  | strbPre | strhPre | ldrbPre | ldrhPre | ldrswPre =>
    exact (decodeWord_encodePre ..).trans (by simp [decodePre, lutIdx, lutUimm])
  | strPre | ldrPre | ldrsbPre | ldrshPre =>
    exact (decodeWord_encodePre ..).trans (by simp [decodePre, lutIdx_of_cells, of_decide_eq_true hi])
  -- the words carried whole, below the top-level dispatch (R170)
  | undefReservedGroup w =>
    obtain ⟨hbit, ht⟩ := (wf_undefReservedGroup w).mp hi
    simp [encode, decodeWord, hbit, ht]
  | unimplSme w =>
    obtain ⟨hbit, ht⟩ := (wf_unimplSme w).mp hi
    simp [encode, decodeWord, hbit, ht]
  | delegateSve w =>
    simp [encode, decodeWord, (wf_delegateSve w).mp hi]
  | undefUnallocatedType w =>
    rcases (wf_undefUnallocatedType w).mp hi with ht | ht <;> simp [encode, decodeWord, ht]
  | delegateDpi w =>
    rcases (wf_delegateDpi w).mp hi with ht | ht <;> simp [encode, decodeWord, ht]
  | delegateBes w =>
    rcases (wf_delegateBes w).mp hi with ht | ht <;> simp [encode, decodeWord, ht]
  | delegateDpr w =>
    rcases (wf_delegateDpr w).mp hi with ht | ht <;> simp [encode, decodeWord, ht]
  | delegateSimd w =>
    rcases (wf_delegateSimd w).mp hi with ht | ht <;> simp [encode, decodeWord, ht]
  -- below the loads/stores classifier (R171)
  | unimplMemoryTags w => exact decodeWord_of_isMemoryTags hi
  | unimplExclusivePair w =>
    obtain ⟨hls, hop0⟩ := (wf_unimplExclusivePair w).mp hi
    exact decodeWord_of_exclusivePair hls hop0
  | unimplExclOrderedCas w => exact absurd hi (not_wf_unimplExclOrderedCas w)
  | unimplLdaprLiteralMemcpy w =>
    obtain ⟨hls, h1, hmt⟩ := (wf_unimplLdaprLiteralMemcpy w).mp hi
    exact decodeWord_of_ldaprLiteralMemcpy hls h1 hmt
  -- below the SIMD structure node (R172)
  | undefSimdLsStruct w =>
    obtain ⟨hs, h3, h0⟩ := (wf_undefSimdLsStruct w).mp hi
    exact (decodeWord_of_isSimdStruct hs).trans ((if_neg h3).trans (if_neg h0))
  | delegateSimdLsSingle w =>
    obtain ⟨hs, h3, h0⟩ := (wf_delegateSimdLsSingle w).mp hi
    exact (decodeWord_of_isSimdStruct hs).trans ((if_neg h3).trans (if_pos h0))
  | delegateSimdLsSinglePost w =>
    obtain ⟨hs, h3⟩ := (wf_delegateSimdLsSinglePost w).mp hi
    exact (decodeWord_of_isSimdStruct hs).trans (if_pos h3)
  -- below the pair selector (R173)
  | undefPairOpc11 w =>
    obtain ⟨hp, h0, h11⟩ := (wf_undefPairOpc11 w).mp hi
    have hpair : ∀ mode, decodePair mode w = .undefPairOpc11 w := fun _ => if_pos h11
    rw [encode, decodeWord_of_isPair hp, decodePairSelect, if_neg h0]
    simp only [hpair, ite_self]
  | unimplNoallocPair w =>
    obtain ⟨hp, h0⟩ := (wf_unimplNoallocPair w).mp hi
    exact (decodeWord_of_isPair hp).trans (if_pos h0)
  -- below the register-or-atomic selector (R174)
  | undefLsUimmCell w =>
    obtain ⟨hr, h24, hc⟩ := (wf_undefLsUimmCell w).mp hi
    simp [encode, decodeWord_of_isRegOrAtomic hr, decodeRegSelect, h24, decodeUimm, (lutUimm_eq_undefined_iff _).mpr hc]
  | undefLsRegoffCell w =>
    obtain ⟨hr, h24, h21, hop4, hc⟩ := (wf_undefLsRegoffCell w).mp hi
    simp [encode, decodeWord_of_isRegOrAtomic hr, decodeRegSelect, h24, h21, hop4, decodeRegoff,
      (lutReg_eq_undefined_iff _).mpr hc]
  | undefLsUnscaledCell w =>
    obtain ⟨hr, h24, h21, hop4, hc⟩ := (wf_undefLsUnscaledCell w).mp hi
    simp [encode, decodeWord_of_isRegOrAtomic hr, decodeRegSelect, h24, h21, hop4, decodeUnsc, lutUnsc,
      (lutUimm_eq_undefined_iff _).mpr hc]
  | undefLsIndexedCell w =>
    obtain ⟨hr, h24, h21, hop4, hc⟩ := (wf_undefLsIndexedCell w).mp hi
    rcases hop4 with hop4 | hop4 <;>
      simp [encode, decodeWord_of_isRegOrAtomic hr, decodeRegSelect, h24, h21, hop4, decodePost, decodePre,
        (lutIdx_eq_undefined_iff _).mpr hc]
  | unimplAtomic w =>
    obtain ⟨hr, h24, h21, hop4⟩ := (wf_unimplAtomic w).mp hi
    simp [encode, decodeWord_of_isRegOrAtomic hr, decodeRegSelect, h24, h21, hop4]
  | unimplPac w =>
    obtain ⟨hr, h24, h21, hop4⟩ := (wf_unimplPac w).mp hi
    rcases hop4 with hop4 | hop4 <;> simp [encode, decodeWord_of_isRegOrAtomic hr, decodeRegSelect, h24, h21, hop4]
  | unimplUnprivileged w =>
    obtain ⟨hr, h24, h21, hop4⟩ := (wf_unimplUnprivileged w).mp hi
    simp [encode, decodeWord_of_isRegOrAtomic hr, decodeRegSelect, h24, h21, hop4]

end Sys2Proof

/-! The words for which the decode core answers without a record (spec/60_exceptions.md R401, R402; 30_encoding.md
R130–R133): a word carried whole is one of these exactly where its instruction is well-formed. -/

namespace Sys2Proof
open Machine

/-- The answer without a record that an instruction stands for (R132, R133, R177, R240, R271, R300). -/
def Instr.answer : Instr → Option RouterOut
  | .undefReservedGroup _ => some (.undefined .reservedGroup)
  | .undefUnallocatedType _ => some (.undefined .unallocatedType)
  | .undefSimdLsStruct _ => some (.undefined .simdLsStruct)
  | .undefPairOpc11 _ => some (.undefined .pairOpc11)
  | .undefLsUimmCell _ => some (.undefined .lsUimmCell)
  | .undefLsRegoffCell _ => some (.undefined .lsRegoffCell)
  | .undefLsUnscaledCell _ => some (.undefined .lsUnscaledCell)
  | .undefLsIndexedCell _ => some (.undefined .lsIndexedCell)
  | .unimplSme _ => some (.unimplemented .sme)
  | .unimplMemoryTags _ => some (.unimplemented .memoryTags)
  | .unimplExclusivePair _ => some (.unimplemented .exclusivePair)
  | .unimplExclOrderedCas _ => some (.unimplemented .exclOrderedCas)
  | .unimplLdaprLiteralMemcpy _ => some (.unimplemented .ldaprLiteralMemcpy)
  | .unimplNoallocPair _ => some (.unimplemented .noallocPair)
  | .unimplAtomic _ => some (.unimplemented .atomic)
  | .unimplPac _ => some (.unimplemented .pac)
  | .unimplUnprivileged _ => some (.unimplemented .unprivileged)
  | .prfmUimm .. | .prfmRegoff .. => some (.unimplemented .prfm)
  | .prfum .. => some (.unimplemented .prfum)
  | .delegateSve _ => some (.delegate .sve)
  | .delegateDpi _ => some (.delegate .dpi)
  | .delegateBes _ => some (.delegate .bes)
  | .delegateDpr _ => some (.delegate .dpr)
  | .delegateSimd _ => some (.delegate .simd)
  | .delegateSimdLsSingle _ => some (.delegate .simdLsSingle)
  | .delegateSimdLsSinglePost _ => some (.delegate .simdLsSinglePost)
  | _ => none

end Sys2Proof

namespace Sys2Proof.Machine
open Sys2Proof

/-! ### Node for node: the decoded instruction names the core's answer -/

/-- The answer of the core, unless it is a record. -/
def RouterOut.answer : RouterOut → Option RouterOut
  | .ok _ => none
  | .undefined reason => some (.undefined reason)
  | .unimplemented kind => some (.unimplemented kind)
  | .delegate u => some (.delegate u)

/-- The instruction `i` stands for the answer `o`, or both for a record. -/
def Answers (i : Instr) (o : RouterOut) : Prop := i.answer = o.answer

/-- A node of the decoder and the core's node with the same condition. -/
theorem Answers.ite {c : Prop} [Decidable c] {i j : Instr} {o p : RouterOut} (hpos : c → Answers i o)
    (hneg : ¬c → Answers j p) : Answers (if c then i else j) (if c then o else p) := by
  split
  · next h => exact hpos h
  · next h => exact hneg h

/-- `FAM_PAIR` has a row for every mnemonic that `PairDecode` chooses (R128, R200). -/
theorem famPair_pairMnemonic {w : Word} (h : fTop2 w ≠ 0b11) :
    ∃ f bits, famPair (fTop2 w) (fV w) (pairMnemonic w) = some (f, bits) := by
  suffices (famPair (fTop2 w) (fV w) (pairMnemonic w)).isSome by
    obtain ⟨⟨f, bits⟩, hfam⟩ := Option.isSome_iff_exists.mp this
    exact ⟨f, bits, hfam⟩
  unfold pairMnemonic
  generalize fTop2 w = opc at *
  generalize fV w = v
  generalize fL w = l
  revert opc v l
  decide

theorem decodePair_answers (w : Word) (mode : MemMode) : Answers (decodePair mode w) (pairDecode w mode) := by
  rw [pairDecode_eq]
  refine .ite (fun _ => rfl) fun h11 => ?_
  obtain ⟨f, bits, hfam⟩ := famPair_pairMnemonic h11
  rw [pairOut, hfam]
  split <;> split <;> rfl

theorem decodeUimm_answers (w : Word) : Answers (decodeUimm w) (uImmDecode w) := by
  unfold decodeUimm uImmDecode
  cases lutUimm (fCell w) with
  | undefined | prefetch => rfl
  | op b => cases b <;> rfl

theorem decodeRegoff_answers (w : Word) : Answers (decodeRegoff w) (regOffDecode w) := by
  unfold decodeRegoff regOffDecode
  cases lutReg (fCell w) with
  | undefined | prefetch => rfl
  | op b => cases b <;> rfl

theorem decodeUnsc_answers (w : Word) : Answers (decodeUnsc w) (unscDecode w) := by
  unfold decodeUnsc unscDecode
  cases lutUnsc (fCell w) with
  | undefined | prefetch => rfl
  | op b => cases b <;> rfl

theorem decodePost_answers (w : Word) : Answers (decodePost w) (idxDecode w .postIndex) := by
  unfold decodePost idxDecode
  cases lutIdx (fCell w) with
  | undefined | prefetch => rfl
  | op b => cases b <;> rfl

theorem decodePre_answers (w : Word) : Answers (decodePre w) (idxDecode w .preIndex) := by
  unfold decodePre idxDecode
  cases lutIdx (fCell w) with
  | undefined | prefetch => rfl
  | op b => cases b <;> rfl

theorem decodeSimdStruct_answers (w : Word) : Answers (decodeSimdStruct w) (simdStruct w) :=
  .ite (fun _ => rfl) fun _ => .ite (fun _ => rfl) fun _ => rfl

theorem decodePairSelect_answers (w : Word) : Answers (decodePairSelect w) (pairSelect w) :=
  .ite (fun _ => rfl) fun _ => .ite (fun _ => decodePair_answers w _) fun _ =>
    .ite (fun _ => decodePair_answers w _) fun _ => decodePair_answers w _

theorem decodeRegSelect_answers (w : Word) : Answers (decodeRegSelect w) (regSelect w) :=
  .ite (fun _ => decodeUimm_answers w) fun _ => .ite
    (fun _ => .ite (fun _ => rfl) fun _ => .ite (fun _ => decodeRegoff_answers w) fun _ => rfl)
    fun _ => .ite (fun _ => decodeUnsc_answers w) fun _ => .ite (fun _ => decodePost_answers w) fun _ =>
      .ite (fun _ => rfl) fun _ => decodePre_answers w

theorem decodeLs_answers (w : Word) : Answers (decodeLs w) (lsClassify w) :=
  .ite (fun _ => decodeSimdStruct_answers w) fun _ => .ite (fun _ => rfl) fun _ => .ite (fun _ => rfl) fun _ =>
    .ite (fun _ => rfl) fun _ => .ite (fun _ => rfl) fun _ => .ite (fun _ => decodePairSelect_answers w) fun _ =>
      decodeRegSelect_answers w

theorem decodeWord_answers (w : Word) : Answers (decodeWord w) (dispatch w) :=
  .ite (fun _ => rfl) fun _ => .ite (fun _ => rfl) fun _ => .ite (fun _ => rfl) fun _ => .ite (fun _ => rfl) fun _ =>
    .ite (fun _ => rfl) fun _ => .ite (fun _ => rfl) fun _ => .ite (fun _ => decodeLs_answers w) fun _ =>
      .ite (fun _ => rfl) fun _ => rfl

theorem RouterOut.answer_eq_some_iff {o p : RouterOut} (hp : p.answer = some p) : o.answer = some p ↔ o = p := by
  refine ⟨fun h => ?_, fun h => h ▸ hp⟩
  cases o <;> cases h <;> rfl

/-- The core answers `o`, which is no record, for the words whose instruction stands for `o`. -/
theorem dispatch_eq_iff {w : Word} {o : RouterOut} (ho : o.answer = some o) :
    dispatch w = o ↔ (decodeWord w).answer = some o := by
  rw [decodeWord_answers w, RouterOut.answer_eq_some_iff ho]

/-! ### The instruction that carries a word whole -/

/-- The constructor of the words with an answer, where one carries them whole. -/
def RouterOut.carrier : RouterOut → Option (Word → Instr)
  | .undefined .reservedGroup => some .undefReservedGroup
  | .undefined .unallocatedType => some .undefUnallocatedType
  | .undefined .simdLsStruct => some .undefSimdLsStruct
  | .undefined .pairOpc11 => some .undefPairOpc11
  | .undefined .lsUimmCell => some .undefLsUimmCell
  | .undefined .lsRegoffCell => some .undefLsRegoffCell
  | .undefined .lsUnscaledCell => some .undefLsUnscaledCell
  | .undefined .lsIndexedCell => some .undefLsIndexedCell
  | .unimplemented .sme => some .unimplSme
  | .unimplemented .memoryTags => some .unimplMemoryTags
  | .unimplemented .exclusivePair => some .unimplExclusivePair
  | .unimplemented .exclOrderedCas => some .unimplExclOrderedCas
  | .unimplemented .ldaprLiteralMemcpy => some .unimplLdaprLiteralMemcpy
  | .unimplemented .noallocPair => some .unimplNoallocPair
  | .unimplemented .atomic => some .unimplAtomic
  | .unimplemented .pac => some .unimplPac
  | .unimplemented .unprivileged => some .unimplUnprivileged
  | .delegate .sve => some .delegateSve
  | .delegate .dpi => some .delegateDpi
  | .delegate .bes => some .delegateBes
  | .delegate .dpr => some .delegateDpr
  | .delegate .simd => some .delegateSimd
  | .delegate .simdLsSingle => some .delegateSimdLsSingle
  | .delegate .simdLsSinglePost => some .delegateSimdLsSinglePost
  | _ => none

/-- A carrier holds its word and stands for its answer. -/
theorem RouterOut.carrier_spec {o : RouterOut} {mk : Word → Instr} (h : o.carrier = some mk) (w : Word) :
    o.answer = some o ∧ encode (mk w) = w ∧ (mk w).answer = some o := by
  unfold RouterOut.carrier at h
  split at h <;> cases h <;> exact ⟨rfl, rfl, rfl⟩

/-- An instruction that stands for a carrier's answer is that carrier on its own word. -/
theorem eq_carrier_of_answer {i : Instr} {o : RouterOut} {mk : Word → Instr} (h : o.carrier = some mk)
    (hi : i.answer = some o) : i = mk (encode i) := by
  cases i <;> cases hi <;> cases h <;> rfl

/-- The core gives an answer for the words that its carrier's rule names. -/
theorem dispatch_eq_iff_wf {o : RouterOut} {mk : Word → Instr} (h : o.carrier = some mk) (w : Word) :
    dispatch w = o ↔ (mk w).wf = true := by
  obtain ⟨ho, hword, hans⟩ := RouterOut.carrier_spec h w
  have hreads := decodeWord_reads w
  rw [dispatch_eq_iff ho]
  constructor
  · intro hi
    have hmk : decodeWord w = mk w := (eq_carrier_of_answer h hi).trans (congrArg mk hreads.word)
    exact hmk ▸ hreads.wf
  · intro hwf
    have hmk : decodeWord w = mk w := (congrArg decodeWord hword).symm.trans (decodeOfEncode (mk w) hwf)
    exact hmk ▸ hans

/-! ### Undefined, Unimplemented and delegated words -/

/-- No instruction stands for a collaborator's own reason or kind. -/
theorem answer_ne_collab (i : Instr) (k : Nat) :
    i.answer ≠ some (.undefined (.collab k)) ∧ i.answer ≠ some (.unimplemented (.collab k)) := by
  cases i <;> exact ⟨nofun, nofun⟩

/-- Settles O20: each reason's carrier is well-formed on the words that R401 names. -/
theorem undefinedWordsExactly : Obligations.UndefinedWordsExactly := fun w =>
  ⟨(dispatch_eq_iff_wf rfl w).trans (wf_undefReservedGroup w),
    (dispatch_eq_iff_wf rfl w).trans (wf_undefUnallocatedType w),
    (dispatch_eq_iff_wf rfl w).trans (wf_undefSimdLsStruct w),
    (dispatch_eq_iff_wf rfl w).trans (wf_undefPairOpc11 w),
    (dispatch_eq_iff_wf rfl w).trans (wf_undefLsUimmCell w),
    (dispatch_eq_iff_wf rfl w).trans (wf_undefLsRegoffCell w),
    (dispatch_eq_iff_wf rfl w).trans (wf_undefLsUnscaledCell w),
    (dispatch_eq_iff_wf rfl w).trans (wf_undefLsIndexedCell w),
    fun k h => (answer_ne_collab _ k).1 ((dispatch_eq_iff rfl).mp h)⟩

/-- Settles O22: each unit's carrier is well-formed on the words that R130, R131 and R172 send to it. -/
theorem delegatedWordsExactly : Obligations.DelegatedWordsExactly := fun w =>
  ⟨(dispatch_eq_iff_wf rfl w).trans (wf_delegateSve w),
    (dispatch_eq_iff_wf rfl w).trans (wf_delegateDpi w),
    (dispatch_eq_iff_wf rfl w).trans (wf_delegateBes w),
    (dispatch_eq_iff_wf rfl w).trans (wf_delegateDpr w),
    (dispatch_eq_iff_wf rfl w).trans (wf_delegateSimd w),
    (dispatch_eq_iff_wf rfl w).trans (wf_delegateSimdLsSinglePost w),
    (dispatch_eq_iff_wf rfl w).trans (wf_delegateSimdLsSingle w)⟩

/-- The PRFM words: the unsigned-immediate cell of R240 and the register-offset cells of R271. -/
theorem dispatch_eq_prfm_iff (w : Word) : dispatch w = .unimplemented .prfm ↔
    isRegOrAtomic w = true ∧
      ((fOp2h w = true ∧ fCell w = ⟨0b11, 0b10, false⟩) ∨
        (fOp2h w = false ∧ fB21 w = true ∧ fOp4 w = 0b10 ∧
          (fCell w = ⟨0b10, 0b11, false⟩ ∨ fCell w = ⟨0b11, 0b10, false⟩))) := by
  rw [dispatch_eq_iff rfl]
  constructor
  · intro h
    obtain ⟨hwf, hword⟩ := decodeWord_reads w
    cases hi : decodeWord w with
    | prfmUimm imm12 rn rt =>
      rw [hi, encode] at hword
      simp [← hword]
    | prfmRegoff c rm option s rn rt =>
      rw [hi] at hwf hword
      have hc : c ∈ prfmRegoffCells := of_decide_eq_true hwf
      rw [encode] at hword
      simpa [← hword, prfmRegoffCells] using hc
    | _ => rw [hi] at h; cases h
  · rintro ⟨hr, ⟨h24, hc⟩ | ⟨h24, h21, hop4, hc⟩⟩
    · have hlut := (lutUimm_eq_prefetch_iff _).mpr hc
      simp [decodeWord_of_isRegOrAtomic hr, decodeRegSelect, h24, decodeUimm, hlut, Instr.answer]
    · have hlut := (lutReg_eq_prefetch_iff (fCell w)).mpr (by simpa [prfmRegoffCells] using hc)
      simp [decodeWord_of_isRegOrAtomic hr, decodeRegSelect, h24, h21, hop4, decodeRegoff, hlut, Instr.answer]

/-- The PRFUM words (R300). -/
theorem dispatch_eq_prfum_iff (w : Word) : dispatch w = .unimplemented .prfum ↔
    isRegOrAtomic w = true ∧ fOp2h w = false ∧ fB21 w = false ∧ fOp4 w = 0b00 ∧ fCell w = ⟨0b11, 0b10, false⟩ := by
  rw [dispatch_eq_iff rfl]
  constructor
  · intro h
    have hword := (decodeWord_reads w).word
    cases hi : decodeWord w with
    | prfum imm9 rn rt =>
      rw [hi, encode] at hword
      simp [← hword]
    | _ => rw [hi] at h; cases h
  · rintro ⟨hr, h24, h21, hop4, hc⟩
    have hlut : lutUnsc (fCell w) = .prefetch := (lutUimm_eq_prefetch_iff _).mpr hc
    simp [decodeWord_of_isRegOrAtomic hr, decodeRegSelect, h24, h21, hop4, decodeUnsc, hlut, Instr.answer]

/-- Settles O21: each kind's carrier is well-formed on the words that R402 names, that of EXCL_ORDERED_CAS on none
(R175), and PRFM and PRFUM are cells of their tables. -/
theorem unimplementedWordsExactly : Obligations.UnimplementedWordsExactly := fun w =>
  ⟨(dispatch_eq_iff_wf rfl w).trans (wf_unimplSme w),
    dispatch_eq_iff_wf (mk := .unimplMemoryTags) rfl w,
    (dispatch_eq_iff_wf rfl w).trans (wf_unimplExclusivePair w),
    fun h => not_wf_unimplExclOrderedCas w ((dispatch_eq_iff_wf rfl w).mp h),
    (dispatch_eq_iff_wf rfl w).trans (wf_unimplLdaprLiteralMemcpy w),
    (dispatch_eq_iff_wf rfl w).trans (wf_unimplNoallocPair w),
    (dispatch_eq_iff_wf rfl w).trans (wf_unimplAtomic w),
    (dispatch_eq_iff_wf rfl w).trans (wf_unimplPac w),
    (dispatch_eq_iff_wf rfl w).trans (wf_unimplUnprivileged w),
    dispatch_eq_prfm_iff w,
    dispatch_eq_prfum_iff w,
    fun k h => (answer_ne_collab _ k).2 ((dispatch_eq_iff rfl).mp h)⟩

end Sys2Proof.Machine

/-! The bit utilities and the offset formulas in signed arithmetic (spec/30_encoding.md R117–R120). -/

namespace Sys2Proof.Machine
open Sys2Proof

/-! ### The bit utilities (R117) -/

/-- `zext n` keeps the low `n` bits. -/
theorem zext_eq_setWidth {n : Nat} (hn : n ≤ 64) (v : Imm) : zext n v = (v.setWidth n).setWidth 64 := by
  apply BitVec.eq_of_toNat_eq
  have hlow : 2 ^ n - 1 < 2 ^ 64 := Nat.lt_of_lt_of_le (Nat.sub_lt (Nat.two_pow_pos n) Nat.one_pos)
    (Nat.pow_le_pow_right (by decide) hn)
  rw [zext, BitVec.toNat_and, BitVec.toNat_ofNat, Nat.mod_eq_of_lt hlow, Nat.and_two_pow_sub_one_eq_mod,
    BitVec.toNat_setWidth_of_le hn, BitVec.toNat_setWidth]

theorem zext_toNat {n : Nat} (hn : n ≤ 64) (v : Imm) : (zext n v).toNat = v.toNat % 2 ^ n := by
  rw [zext_eq_setWidth hn, BitVec.toNat_setWidth_of_le hn, BitVec.toNat_setWidth]

/-- `sext n` reads the low `n` bits as a signed number. -/
theorem sext_toInt {n : Nat} (h1 : 1 ≤ n) (hn : n ≤ 64) (v : Imm) : (sext n v).toInt = (v.setWidth n).toInt := by
  have hlow : sext n v = sext n ((v.setWidth n).setWidth 64) := by
    simp only [sext, zext_setWidth hn]
    rw [zext_eq_setWidth hn]
  rw [hlow, sext_setWidth h1 hn, BitVec.toInt_signExtend_of_le hn]

theorem bit_eq_ite (v : Imm) (k : Nat) : bit v k = if v.getLsbD k then 1 else 0 := by
  apply BitVec.eq_of_getLsbD_eq
  intro j hj
  cases h : v.getLsbD k <;> cases j <;> simp [bit, h]

/-- Settles O52. -/
theorem signExtenderArithmetic : Obligations.SignExtenderArithmetic := by
  intro v n h1 hn
  refine ⟨?_, zext_toNat hn v, bit_eq_ite v⟩
  have hhalf : 2 ^ n = 2 * 2 ^ (n - 1) := by rw [← Nat.pow_succ', Nat.succ_eq_add_one, Nat.sub_add_cancel h1]
  rw [sext_toInt h1 hn, BitVec.toInt_eq_toNat_cond, BitVec.toNat_setWidth]
  by_cases hsign : 2 ^ (n - 1) ≤ v.toNat % 2 ^ n
  · rw [if_pos hsign, if_neg (by omega)]
    push_cast
    rfl
  · rw [if_neg hsign, if_pos (by omega)]

/-! ### The offsets (R118, R119, R120) -/

/-- A signed field times a scale of at most 16 bytes does not overflow (R118). -/
theorem pairOffset_toInt (imm7 : BitVec 7) {bits : Nat} (hbits : bits / 8 ≤ 16) :
    (pairOffset imm7 bits).toInt = imm7.toInt * ((bits / 8 : Nat) : Int) ∧
      -64 * ((bits / 8 : Nat) : Int) ≤ imm7.toInt * ((bits / 8 : Nat) : Int) ∧
      imm7.toInt * ((bits / 8 : Nat) : Int) ≤ 63 * ((bits / 8 : Nat) : Int) := by
  have himm : -64 ≤ imm7.toInt ∧ imm7.toInt < 64 := ⟨BitVec.le_toInt imm7, BitVec.toInt_lt⟩
  rw [pairOffset_eq, BitVec.toInt_mul, BitVec.toInt_signExtend_of_le (by decide)]
  generalize bits / 8 = scale at *
  have hnat : (BitVec.ofNat 64 scale).toNat = scale := Nat.mod_eq_of_lt (by omega)
  have hint : (BitVec.ofNat 64 scale).toInt = scale := by rw [BitVec.toInt_eq_toNat_of_lt (by omega), hnat]
  have hlo : -64 * (scale : Int) ≤ imm7.toInt * scale := Int.mul_le_mul_of_nonneg_right himm.1 (by omega)
  have hhi : imm7.toInt * scale ≤ 63 * (scale : Int) := Int.mul_le_mul_of_nonneg_right (by omega) (by omega)
  rw [hint]
  exact ⟨Int.bmod_eq_of_le (by omega) (by omega), hlo, hhi⟩

/-- The shifted field stays far below the sign bit, so the offset is never negative (R119). -/
theorem uimmOffset_toInt (imm12 : BitVec 12) (size : BitVec 2) :
    (uimmOffset imm12 size).toInt = ((imm12.toNat * 2 ^ size.toNat : Nat) : Int) ∧
      imm12.toNat * 2 ^ size.toNat ≤ 32760 := by
  have hbound : imm12.toNat * 2 ^ size.toNat ≤ 4095 * 2 ^ 3 :=
    Nat.mul_le_mul (Nat.le_of_lt_succ imm12.isLt) (Nat.pow_le_pow_right (by decide) (Nat.le_of_lt_succ size.isLt))
  have htoNat : (uimmOffset imm12 size).toNat = imm12.toNat * 2 ^ size.toNat := by
    rw [uimmOffset, zext_setWidth (by decide), BitVec.toNat_shiftLeft, BitVec.toNat_setWidth_of_le (by decide),
      Nat.shiftLeft_eq, Nat.mod_eq_of_lt (by omega)]
  refine ⟨?_, hbound⟩
  rw [BitVec.toInt_eq_toNat_of_lt (by omega), htoNat]

theorem imm9Offset_toInt (imm9 : BitVec 9) : (imm9Offset imm9).toInt = imm9.toInt := by
  rw [imm9Offset, sext_setWidth (by decide) (by decide), BitVec.toInt_signExtend_of_le (by decide)]

/-- Settles O53. -/
theorem offsetsAreExactAndInRange : Obligations.OffsetsAreExactAndInRange := by
  refine ⟨fun imm7 bits hbits => ?_, fun imm12 size => ?_, fun imm9 => ?_⟩
  · obtain ⟨hval, hlo, hhi⟩ := pairOffset_toInt imm7 (bits := bits) (by omega)
    rw [hval]
    exact ⟨rfl, hlo, hhi⟩
  · obtain ⟨hval, hbound⟩ := uimmOffset_toInt imm12 size
    exact ⟨hval, by omega⟩
  · have hlo : -256 ≤ imm9.toInt := BitVec.le_toInt imm9
    have hhi : imm9.toInt < 256 := BitVec.toInt_lt
    rw [imm9Offset_toInt]
    have hsign : imm9.getLsbD 8 = decide (imm9.toInt < 0) :=
      (BitVec.msb_eq_getLsbD_last imm9).symm.trans BitVec.msb_eq_toInt
    exact ⟨rfl, hlo, by omega, by rw [hsign, decide_eq_true_iff]⟩

end Sys2Proof.Machine

/-! The opcode table as a partition of the words (spec/30_encoding.md R135): bit by bit, the rows that still agree with
a word are narrowed down, and in the end exactly one is left. -/

namespace Sys2Proof.Machine
open Sys2Proof

/-! ### The bits that the rows test -/

/-- The bits that tell the rows apart, those that split the table best first: `t`, `op0`, `op2` and `opc`, `I[21]`,
`op4`, and `I[20:16]` (R111, R112). -/
def selectorBits : List Nat := [28, 27, 26, 25, 31, 30, 29, 24, 23, 22, 21, 11, 10, 20, 19, 18, 17, 16]

/-- The bits `I[15:12]` and `I[9:0]`, which hold operands in every format (R113–R116). -/
def operandMask : Word := 0x0000F3FF

/-- The row says nothing about the operand bits. -/
def OpRow.leavesOperands (row : OpRow) : Bool := (row.mask ||| row.pattern) &&& operandMask == 0

/-- The row agrees with a word that has the bit `b` at place `n`. -/
def OpRow.allows (n : Nat) (b : Bool) (row : OpRow) : Bool := (b && row.mask.getLsbD n) == row.pattern.getLsbD n

/-- The row agrees with the word on the listed bits. -/
def OpRow.agrees (bits : List Nat) (w : Word) (row : OpRow) : Bool := bits.all fun n => row.allows n (w.getLsbD n)

theorem OpRow.agrees_iff {bits : List Nat} {w : Word} {row : OpRow} :
    row.agrees bits w = true ↔ ∀ n ∈ bits, (w &&& row.mask).getLsbD n = row.pattern.getLsbD n := by
  simp [OpRow.agrees, OpRow.allows]

theorem OpRow.Matches.agrees {row : OpRow} {w : Word} (h : row.Matches w) (bits : List Nat) :
    row.agrees bits w = true :=
  OpRow.agrees_iff.mpr fun _ _ => by rw [h]

theorem mem_selectorBits_or_operand : ∀ n < 32, n ∈ selectorBits ∨ operandMask.getLsbD n = true := by decide

theorem OpRow.leavesOperands_at {row : OpRow} (h : row.leavesOperands = true) {n : Nat}
    (hn : operandMask.getLsbD n = true) :
    row.mask.getLsbD n = false ∧ row.pattern.getLsbD n = false := by
  have hbit : ((row.mask ||| row.pattern) &&& operandMask).getLsbD n = (0 : Word).getLsbD n := by rw [beq_iff_eq.mp h]
  simpa [hn] using hbit

/-- A row that leaves the operand bits matches where it agrees on the others. -/
theorem OpRow.matches_of_agrees {row : OpRow} {w : Word} (hrow : row.leavesOperands = true)
    (h : row.agrees selectorBits w = true) : row.Matches w := by
  refine BitVec.eq_of_getLsbD_eq fun n hn => ?_
  rcases mem_selectorBits_or_operand n hn with hsel | hop
  · exact OpRow.agrees_iff.mp h n hsel
  · obtain ⟨hmask, hpattern⟩ := OpRow.leavesOperands_at hrow hop
    rw [BitVec.getLsbD_and, hmask, hpattern, Bool.and_false]

/-! ### One row per word -/

/-- Every word agrees on the listed bits with exactly one of the rows, which says nothing about the operand bits: at
each bit the rows are narrowed down to those that allow 0 and to those that allow 1, the same ones where no row tests
it. -/
def exactlyOne : List Nat → List OpRow → Bool
  | [], rows => rows.length == 1 && rows.all OpRow.leavesOperands
  | n :: bits, rows =>
    exactlyOne bits (rows.filter (·.allows n false)) &&
      (rows.all (!·.mask.getLsbD n) || exactlyOne bits (rows.filter (·.allows n true)))

/-- Where no row tests a bit, a row that allows 0 there allows 1. -/
theorem OpRow.allows_of_untested {n : Nat} {row : OpRow} (h : row.mask.getLsbD n = false) (b : Bool) :
    row.allows n b = row.allows n false := by
  simp [OpRow.allows, h]

theorem filter_agrees_cons (n : Nat) (bits : List Nat) (w : Word) (rows : List OpRow) :
    rows.filter (·.agrees (n :: bits) w) = (rows.filter (·.allows n (w.getLsbD n))).filter (·.agrees bits w) := by
  simp only [List.filter_filter, OpRow.agrees, List.all_cons, Bool.and_comm]

theorem filter_agrees_of_exactlyOne {bits : List Nat} {rows : List OpRow} (h : exactlyOne bits rows = true) (w : Word) :
    ∃ row, rows.filter (·.agrees bits w) = [row] ∧ row.leavesOperands = true := by
  induction bits generalizing rows with
  | nil =>
    simp only [exactlyOne, Bool.and_eq_true, beq_iff_eq] at h
    obtain ⟨row, rfl⟩ := List.length_eq_one_iff.mp h.1
    exact ⟨row, rfl, by simpa using h.2⟩
  | cons n bits ih =>
    rw [exactlyOne, Bool.and_eq_true, Bool.or_eq_true] at h
    obtain ⟨hzero, hfree | hone⟩ := h
    · have hsame : rows.filter (·.allows n (w.getLsbD n)) = rows.filter (·.allows n false) :=
        List.filter_congr fun row hrow =>
          OpRow.allows_of_untested (by simpa using List.all_eq_true.mp hfree row hrow) _
      rw [filter_agrees_cons, hsame]
      exact ih hzero
    · rw [filter_agrees_cons]
      cases w.getLsbD n
      · exact ih hzero
      · exact ih hone

theorem opcodeTable_exactlyOne : exactlyOne selectorBits opcodeTable = true := by decide

/-- Settles O58: one row is left for the word, and it matches. -/
theorem opcodeTableCoversEveryWord : Obligations.OpcodeTableCoversEveryWord := by
  intro w
  obtain ⟨row, honly, hfree⟩ := filter_agrees_of_exactlyOne opcodeTable_exactlyOne w
  obtain ⟨hmem, hagrees⟩ := List.mem_filter.mp (honly ▸ List.mem_singleton_self row)
  exact ⟨row, hmem, OpRow.matches_of_agrees hfree hagrees⟩

/-- Of two places of a list whose filter has one element, not both meet the filter. -/
theorem pairwise_of_filter_length_le_one {α : Type} {p : α → Bool} {l : List α} (h : (l.filter p).length ≤ 1) :
    l.Pairwise fun a b => ¬(p a = true ∧ p b = true) := by
  induction l with
  | nil => exact .nil
  | cons a l ih =>
    refine .cons (fun b hb hab => ?_) (ih ?_)
    · have hpos := List.length_pos_of_mem (List.mem_filter.mpr ⟨hb, hab.2⟩)
      rw [List.filter_cons_of_pos hab.1, List.length_cons] at h
      omega
    · exact Nat.le_trans ((List.sublist_cons_self a l).filter p).length_le h

/-- Settles O57: two rows that match a word would both be left for it. -/
theorem opcodeTableRowsAreDisjoint : Obligations.OpcodeTableRowsAreDisjoint := by
  refine List.pairwise_iff_forall_sublist.mpr fun {row row'} hsub w ⟨hrow, hrow'⟩ => ?_
  obtain ⟨only, honly, -⟩ := filter_agrees_of_exactlyOne opcodeTable_exactlyOne w
  have hpair := List.pairwise_iff_forall_sublist.mp
    (pairwise_of_filter_length_le_one (p := (·.agrees selectorBits w)) (by rw [honly]; rfl)) hsub
  exact hpair ⟨hrow.agrees _, hrow'.agrees _⟩

end Sys2Proof.Machine

/-! The opcode table against the decode core, row by row (spec/30_encoding.md R135): the router as a decision tree over
the fields of a word, whose outcome for a word fits the core's answer, and which has a row's outcome for every word of
the row. -/

namespace Sys2Proof.Machine
open Sys2Proof

/-! ### Decision trees over the fields of a word -/

/-- A decision tree: a test of one field under a mask, or an outcome that is looked up in some bits of the word. -/
inductive FieldTree where
  | test (lo len : Nat) (mask value : BitVec len) (yes no : FieldTree)
  | look (mask : Word) (outcome : Word → RowOutcome)

/-- The outcome of a word. -/
def FieldTree.eval (w : Word) : FieldTree → RowOutcome
  | .test lo len mask value yes no => if field w lo len &&& mask = value then yes.eval w else no.eval w
  | .look mask outcome => outcome (w &&& mask)

/-- The tree has the row's outcome wherever a word of the row may lead: the test may hold where the row's bits do not
contradict it, and may fail where they do not settle it. -/
def FieldTree.gives (row : OpRow) : FieldTree → Bool
  | .test lo len mask value yes no =>
    (!(value &&& field row.mask lo len == field row.pattern lo len &&& mask) || yes.gives row) &&
      ((mask &&& field row.mask lo len == mask && field row.pattern lo len &&& mask == value) || no.gives row)
  | .look mask outcome => mask &&& row.mask == mask && decide (outcome (row.pattern &&& mask) = row.outcome)

theorem field_and (w m : Word) (lo len : Nat) : field (w &&& m) lo len = field w lo len &&& field m lo len :=
  BitVec.extractLsb'_and

/-- A field that the mask holds whole. -/
theorem field_and_of_allOnes {m : Word} {lo len : Nat} (h : field m lo len = BitVec.allOnes len) (w : Word) :
    field (w &&& m) lo len = field w lo len := by
  rw [field_and, h, BitVec.and_allOnes]

/-- A bit that the mask holds. -/
theorem bitAt_and_of_true {m : Word} {n : Nat} (h : bitAt m n = true) (w : Word) : bitAt (w &&& m) n = bitAt w n := by
  rw [bitAt] at h
  rw [bitAt, BitVec.getLsbD_and, h, Bool.and_true, bitAt]

theorem FieldTree.eval_of_gives {row : OpRow} {t : FieldTree} (h : t.gives row = true) {w : Word} (hw : row.Matches w) :
    t.eval w = row.outcome := by
  induction t with
  | test lo len mask value yes no ihyes ihno =>
    have hfield : field row.pattern lo len = field w lo len &&& field row.mask lo len := by rw [← field_and, hw]
    simp only [FieldTree.gives, hfield, Bool.and_eq_true, Bool.or_eq_true, Bool.not_eq_true', beq_eq_false_iff_ne,
      beq_iff_eq] at h
    rw [FieldTree.eval]
    split
    · next htest =>
      refine ihyes (h.1.resolve_left (not_not_intro ?_))
      rw [← htest]
      ac_rfl
    · next htest =>
      refine ihno (h.2.resolve_left fun ⟨hknown, hvalue⟩ => htest ?_)
      calc field w lo len &&& mask = field w lo len &&& (mask &&& field row.mask lo len) := by rw [hknown]
        _ = field w lo len &&& field row.mask lo len &&& mask := by ac_rfl
        _ = value := hvalue
  | look mask outcome =>
    simp only [FieldTree.gives, Bool.and_eq_true, beq_iff_eq, decide_eq_true_eq] at h
    have hbits : w &&& mask = row.pattern &&& mask := by
      calc w &&& mask = w &&& (mask &&& row.mask) := by rw [h.1]
        _ = w &&& row.mask &&& mask := by ac_rfl
        _ = row.pattern &&& mask := by rw [hw]
    rw [FieldTree.eval, hbits, h.2]

/-- The same outcome for every word. -/
def FieldTree.answer (o : RowOutcome) : FieldTree := .look 0 fun _ => o

/-- A field with one value. -/
def FieldTree.is (lo : Nat) {len : Nat} (value : BitVec len) (yes no : FieldTree) : FieldTree :=
  .test lo len (BitVec.allOnes len) value yes no

/-- A bit with one value. -/
def FieldTree.bit (n : Nat) (b : Bool) (yes no : FieldTree) : FieldTree := .is n (BitVec.ofBool b) yes no

section
variable (w : Word) {c : Prop} [Decidable c] (yes no : FieldTree)

theorem FieldTree.eval_test_of_iff {lo len : Nat} {mask value : BitVec len}
    (h : field w lo len &&& mask = value ↔ c) :
    (FieldTree.test lo len mask value yes no).eval w = if c then yes.eval w else no.eval w :=
  if_congr h rfl rfl

theorem FieldTree.eval_is (lo : Nat) {len : Nat} (value : BitVec len) :
    (FieldTree.is lo value yes no).eval w = if field w lo len = value then yes.eval w else no.eval w :=
  FieldTree.eval_test_of_iff w yes no (by rw [BitVec.and_allOnes])

theorem field_one_eq_ofBool_iff (n : Nat) (b : Bool) : field w n 1 = BitVec.ofBool b ↔ bitAt w n = b := by
  rw [← ofBool_bitAt]
  cases bitAt w n <;> cases b <;> decide

theorem FieldTree.eval_bit (n : Nat) (b : Bool) :
    (FieldTree.bit n b yes no).eval w = if bitAt w n = b then yes.eval w else no.eval w :=
  (FieldTree.eval_is w yes no n _).trans (if_congr (field_one_eq_ofBool_iff w n b) rfl rfl)

end

/-! ### The router as a decision tree (R170–R174) -/

/-- The bits of the cell `(opc, size, V)` of the single-register formats (R114–R116). -/
def cellMask : Word := 0xC4C00000

/-- The bits of `opc`, `V` and `L` of the pair format (R113). -/
def pairMask : Word := 0xC4400000

/-- The outcome of a pair word, from `opc`, `V` and `L` (R200, R213). -/
def pairOutcome (mode : MemMode) (w : Word) : RowOutcome :=
  if fTop2 w = 0b11 then .undefined .pairOpc11
  else match famPair (fTop2 w) (fV w) (pairMnemonic w) with
    | none => .undefined .pairOpc11
    | some (f, bits) => .ok (pairMnemonic w) f (.pair (bits / 8)) mode

/-- The outcome of an unsigned-immediate word, from its cell (R230). -/
def uimmOutcome (c : Cell) : RowOutcome :=
  match lutUimm c with
  | .undefined => .undefined .lsUimmCell
  | .prefetch => .unimplemented .prfm
  | .op b => .ok b.baseName (fam b c) (.uimm c.size.toNat) .offset

/-- The outcome of a register-offset word (R260). -/
def regoffOutcome (c : Cell) : RowOutcome :=
  match lutReg c with
  | .undefined => .undefined .lsRegoffCell
  | .prefetch => .unimplemented .prfm
  | .op b => .ok b.baseName (fam b c) .regoff .offset

/-- The outcome of an unscaled word (R290). -/
def unscOutcome (c : Cell) : RowOutcome :=
  match lutUnsc c with
  | .undefined => .undefined .lsUnscaledCell
  | .prefetch => .unimplemented .prfum
  | .op b => .ok b.unscaledName (fam b c) .imm9 .offset

/-- The outcome of an indexed word (R320). -/
def idxOutcome (mode : MemMode) (c : Cell) : RowOutcome :=
  match lutIdx c with
  | .undefined | .prefetch => .undefined .lsIndexedCell
  | .op b => .ok b.baseName (fam b c) .imm9 mode

namespace FieldTree

/-- An outcome that depends on the cell alone. -/
def cell (outcome : Cell → RowOutcome) : FieldTree := .look cellMask fun w => outcome (fCell w)

def simdStruct : FieldTree :=
  is 23 0b11#2 (answer (.delegate .simdLsSinglePost))
    (is 16 0b00000#5 (answer (.delegate .simdLsSingle)) (answer (.undefined .simdLsStruct)))

def pairSelect : FieldTree :=
  is 23 0b00#2 (answer (.unimplemented .noallocPair))
    (is 23 0b01#2 (look pairMask (pairOutcome .postIndex))
      (is 23 0b10#2 (look pairMask (pairOutcome .offset)) (look pairMask (pairOutcome .preIndex))))

def regSelect : FieldTree :=
  bit 24 true (cell uimmOutcome)
    (bit 21 true
      (is 10 0b00#2 (answer (.unimplemented .atomic))
        (is 10 0b10#2 (cell regoffOutcome) (answer (.unimplemented .pac))))
      (is 10 0b00#2 (cell unscOutcome)
        (is 10 0b01#2 (cell (idxOutcome .postIndex))
          (is 10 0b10#2 (answer (.unimplemented .unprivileged)) (cell (idxOutcome .preIndex))))))

/-- The classifier below its memory-tags arm. -/
def lsRest : FieldTree :=
  test 28 4 0b1011 0b1000 (answer (.unimplemented .exclusivePair))
    (is 28 0b00#2 (answer (.unimplemented .exclOrderedCas))
      (is 28 0b01#2 (answer (.unimplemented .ldaprLiteralMemcpy)) (is 28 0b10#2 pairSelect regSelect)))

/-- The memory-tags arm tests four fields. -/
def memoryTags : FieldTree :=
  is 28 0b1101#4
    (bit 26 false
      (bit 24 true (bit 21 true (answer (.unimplemented .memoryTags)) lsRest) lsRest) lsRest) lsRest

def lsClassify : FieldTree := test 28 4 0b1011 0 simdStruct memoryTags

/-- The dispatch below its first arm. -/
def dispatchRest : FieldTree :=
  test 25 4 0b1101 0b0001 (answer (.undefined .unallocatedType))
    (is 25 0b0000#4 (answer (.unimplemented .sme))
      (is 25 0b0010#4 (answer (.delegate .sve))
        (test 25 4 0b1110 0b1000 (answer (.delegate .dpi))
          (test 25 4 0b1110 0b1010 (answer (.delegate .bes))
            (test 25 4 0b0101 0b0100 lsClassify
              (test 25 4 0b0111 0b0101 (answer (.delegate .dpr)) (answer (.delegate .simd))))))))

def dispatch : FieldTree :=
  bit 31 false (is 25 0b0000#4 (answer (.undefined .reservedGroup)) dispatchRest) dispatchRest

end FieldTree

/-- The tree has the outcome of every row of the table. -/
theorem FieldTree.dispatch_gives : ∀ row ∈ opcodeTable, FieldTree.dispatch.gives row = true := by
  have h1 : ∀ row ∈ opcodeRows1, FieldTree.dispatch.gives row = true := by decide
  have h2 : ∀ row ∈ opcodeRows2, FieldTree.dispatch.gives row = true := by decide
  have h3 : ∀ row ∈ opcodeRows3, FieldTree.dispatch.gives row = true := by decide
  have h4 : ∀ row ∈ opcodeRows4, FieldTree.dispatch.gives row = true := by decide
  have h5 : ∀ row ∈ opcodeRows5, FieldTree.dispatch.gives row = true := by decide
  have h6 : ∀ row ∈ opcodeRows6, FieldTree.dispatch.gives row = true := by decide
  simpa only [opcodeTable, List.forall_mem_append] using ⟨⟨⟨⟨⟨h1, h2⟩, h3⟩, h4⟩, h5⟩, h6⟩

/-! ### The tree's outcome fits the core's answer -/

/-- What an outcome says of an answer for the word `w`; of the core's own answer it is `RowOutcome.Holds`. -/
def Fits (w : Word) (o : RouterOut) : RowOutcome → Prop
  | .ok m f off mode =>
    ∃ r : Record, o = .ok r ∧ r.mnemonic = m ∧ r.op0Reg = .reg f (fRt w) ∧ r.memBase = .reg .X (fRn w) ∧
      r.memMode = mode ∧ off.Holds w r
  | .undefined reason => o = .undefined reason
  | .unimplemented kind => o = .unimplemented kind
  | .delegate u => o = .delegate u

theorem fits_dispatch_iff (w : Word) (out : RowOutcome) : Fits w (dispatch w) out ↔ out.Holds w := by
  cases out <;> exact Iff.rfl

/-- A node of the core and a node of the tree with the same condition. -/
theorem Fits.node {w : Word} {c : Prop} [Decidable c] {o p : RouterOut} {t yes no : FieldTree}
    (ht : t.eval w = if c then yes.eval w else no.eval w) (hpos : c → Fits w o (yes.eval w))
    (hneg : ¬c → Fits w p (no.eval w)) : Fits w (if c then o else p) (t.eval w) := by
  rw [ht]
  split
  · next h => exact hpos h
  · next h => exact hneg h

theorem FieldTree.eval_cell (outcome : Cell → RowOutcome) (w : Word) :
    (FieldTree.cell outcome).eval w = outcome (fCell w) := by
  have hopc : fOpc (w &&& cellMask) = fOpc w := field_and_of_allOnes rfl w
  have hsize : fTop2 (w &&& cellMask) = fTop2 w := field_and_of_allOnes rfl w
  have hv : fV (w &&& cellMask) = fV w := bitAt_and_of_true rfl w
  simp only [cell, eval, fCell, hopc, hsize, hv]

theorem uimm_fits (w : Word) : Fits w (uImmDecode w) ((FieldTree.cell uimmOutcome).eval w) := by
  rw [FieldTree.eval_cell, uImmDecode, uimmOutcome]
  cases lutUimm (fCell w) with
  | undefined | prefetch => rfl
  | op b =>
    have hval := (uimmOffset_toInt (fImm12 w) (fCell w).size).1
    exact ⟨_, uimmOut_eq .., rfl, rfl, rfl, rfl, by rw [singleRec, hval]; push_cast; rfl, rfl⟩

theorem regoff_fits (w : Word) : Fits w (regOffDecode w) ((FieldTree.cell regoffOutcome).eval w) := by
  rw [FieldTree.eval_cell, regOffDecode, regoffOutcome]
  cases lutReg (fCell w) with
  | undefined | prefetch => rfl
  | op b => exact ⟨_, regoffOut_eq .., rfl, rfl, rfl, rfl, rfl, rfl⟩

theorem unsc_fits (w : Word) : Fits w (unscDecode w) ((FieldTree.cell unscOutcome).eval w) := by
  rw [FieldTree.eval_cell, unscDecode, unscOutcome]
  cases lutUnsc (fCell w) with
  | undefined | prefetch => rfl
  | op b => exact ⟨_, unscOut_eq .., rfl, rfl, rfl, rfl, imm9Offset_toInt _, rfl⟩

theorem idx_fits (w : Word) (mode : MemMode) :
    Fits w (idxDecode w mode) ((FieldTree.cell (idxOutcome mode)).eval w) := by
  rw [FieldTree.eval_cell, idxDecode, idxOutcome]
  cases lutIdx (fCell w) with
  | undefined | prefetch => rfl
  | op b => exact ⟨_, idxOut_eq .., rfl, rfl, rfl, rfl, imm9Offset_toInt _, rfl⟩

theorem pairOutcome_and_pairMask (mode : MemMode) (w : Word) :
    pairOutcome mode (w &&& pairMask) = pairOutcome mode w := by
  have htop : fTop2 (w &&& pairMask) = fTop2 w := field_and_of_allOnes rfl w
  have hv : fV (w &&& pairMask) = fV w := bitAt_and_of_true rfl w
  have hl : fL (w &&& pairMask) = fL w := bitAt_and_of_true rfl w
  simp only [pairOutcome, pairMnemonic, htop, hv, hl]

/-- The data sizes of R128 are at most 128 bits. -/
theorem famPair_bits_le {opc : BitVec 2} {v : Bool} {m : Mnemonic} {f : Family} {bits : Nat}
    (h : famPair opc v m = some (f, bits)) : bits / 8 ≤ 16 := by
  unfold famPair at h
  split at h
  case h_3 => -- the cell `(01, 0)`, whose row names its mnemonic
    split at h
    · cases h; decide
    · split at h <;> cases h; decide
  case h_7 => cases h
  all_goals cases h; decide

theorem pair_fits (w : Word) (mode : MemMode) :
    Fits w (pairDecode w mode) ((FieldTree.look pairMask (pairOutcome mode)).eval w) := by
  rw [FieldTree.eval, pairOutcome_and_pairMask, pairDecode_eq, pairOutcome]
  split
  · rfl
  · next h11 =>
    obtain ⟨f, bits, hfam⟩ := famPair_pairMnemonic h11
    rw [pairOut, hfam]
    exact ⟨_, rfl, rfl, rfl, rfl, rfl, (pairOffset_toInt (fImm7 w) (famPair_bits_le hfam)).1, rfl⟩

theorem simdStruct_fits (w : Word) : Fits w (simdStruct w) (FieldTree.simdStruct.eval w) :=
  .node (FieldTree.eval_is ..) (fun _ => rfl) fun _ => .node (FieldTree.eval_is ..) (fun _ => rfl) fun _ => rfl

theorem pairSelect_fits (w : Word) : Fits w (pairSelect w) (FieldTree.pairSelect.eval w) :=
  .node (FieldTree.eval_is ..) (fun _ => rfl) fun _ => .node (FieldTree.eval_is ..) (fun _ => pair_fits w _) fun _ =>
    .node (FieldTree.eval_is ..) (fun _ => pair_fits w _) fun _ => pair_fits w _

theorem regSelect_fits (w : Word) : Fits w (regSelect w) (FieldTree.regSelect.eval w) :=
  .node (FieldTree.eval_bit ..) (fun _ => uimm_fits w) fun _ => .node (FieldTree.eval_bit ..)
    (fun _ => .node (FieldTree.eval_is ..) (fun _ => rfl) fun _ =>
      .node (FieldTree.eval_is ..) (fun _ => regoff_fits w) fun _ => rfl)
    fun _ => .node (FieldTree.eval_is ..) (fun _ => unsc_fits w) fun _ =>
      .node (FieldTree.eval_is ..) (fun _ => idx_fits w _) fun _ =>
        .node (FieldTree.eval_is ..) (fun _ => rfl) fun _ => idx_fits w _

theorem FieldTree.eval_memoryTags (w : Word) : FieldTree.memoryTags.eval w =
    if fOp0 w = 0b1101 ∧ fV w = false ∧ fOp2h w = true ∧ fB21 w = true then
      (FieldTree.answer (.unimplemented .memoryTags)).eval w
    else FieldTree.lsRest.eval w := by
  simp only [ite_and, memoryTags, eval_is, eval_bit]
  rfl

theorem lsClassify_fits (w : Word) : Fits w (lsClassify w) (FieldTree.lsClassify.eval w) :=
  .node (FieldTree.eval_test_of_iff w _ _ Iff.rfl) (fun _ => simdStruct_fits w) fun _ =>
    .node (FieldTree.eval_memoryTags w) (fun _ => rfl) fun _ =>
    .node (FieldTree.eval_test_of_iff w _ _ Iff.rfl) (fun _ => rfl) fun _ =>
    .node (FieldTree.eval_is ..) (fun _ => rfl) fun _ => .node (FieldTree.eval_is ..) (fun _ => rfl) fun _ =>
    .node (FieldTree.eval_is ..) (fun _ => pairSelect_fits w) fun _ => regSelect_fits w

/-- The router's sets of types are cubes of the four bits of `t` (R170). -/
theorem fT_cubes : ∀ t : BitVec 4,
    (t &&& 0b1101 = 0b0001 ↔ t = 0b0001 ∨ t = 0b0011) ∧ (t &&& 0b1110 = 0b1000 ↔ t = 0b1000 ∨ t = 0b1001) ∧
      (t &&& 0b1110 = 0b1010 ↔ t = 0b1010 ∨ t = 0b1011) ∧
      (t &&& 0b0101 = 0b0100 ↔ t = 0b0100 ∨ t = 0b0110 ∨ t = 0b1100 ∨ t = 0b1110) ∧
      (t &&& 0b0111 = 0b0101 ↔ t = 0b0101 ∨ t = 0b1101) := by decide

theorem FieldTree.eval_dispatch (w : Word) : FieldTree.dispatch.eval w =
    if bitAt w 31 = false ∧ fT w = 0b0000 then (FieldTree.answer (.undefined .reservedGroup)).eval w
    else FieldTree.dispatchRest.eval w := by
  simp only [ite_and, dispatch, eval_is, eval_bit]
  rfl

theorem dispatch_fits (w : Word) : Fits w (dispatch w) (FieldTree.dispatch.eval w) := by
  obtain ⟨hunalloc, hdpi, hbes, hls, hdpr⟩ := fT_cubes (fT w)
  exact .node (FieldTree.eval_dispatch w) (fun _ => rfl) fun _ =>
    .node (FieldTree.eval_test_of_iff w _ _ hunalloc) (fun _ => rfl) fun _ =>
    .node (FieldTree.eval_is ..) (fun _ => rfl) fun _ => .node (FieldTree.eval_is ..) (fun _ => rfl) fun _ =>
    .node (FieldTree.eval_test_of_iff w _ _ hdpi) (fun _ => rfl) fun _ =>
    .node (FieldTree.eval_test_of_iff w _ _ hbes) (fun _ => rfl) fun _ =>
    .node (FieldTree.eval_test_of_iff w _ _ hls) (fun _ => lsClassify_fits w) fun _ =>
    .node (FieldTree.eval_test_of_iff w _ _ hdpr) (fun _ => rfl) fun _ => rfl

/-- Settles O56: on a word of a row the tree gives the row's outcome, which fits the core's answer. -/
theorem opcodeTableRowsAgreeWithTheCore : Obligations.OpcodeTableRowsAgreeWithTheCore := by
  refine ⟨by simp only [opcodeTable, List.length_append]; rfl, fun row hrow w hw => ?_⟩
  have htree := FieldTree.eval_of_gives (FieldTree.dispatch_gives row hrow) hw
  exact (fits_dispatch_iff w row.outcome).mp (htree ▸ dispatch_fits w)

end Sys2Proof.Machine

/-! The words that the core answers without a record, executed (spec/40_dispatch.md R177, 20_memory.md R91, 60_exceptions.md
R404, R406–R408): an instruction that carries a word whole is one sequencer word over its own answer, and a delegated one
leads where its collaborator's answer says. -/

namespace Sys2Proof.Machine
open Sys2Proof

/-- A carrier runs over the answer it carries. -/
theorem RouterOut.carrier_runsAs {o : RouterOut} {mk : Word → Instr} (h : o.carrier = some mk) (w : Word) :
    RunsAs (mk w) w o := by
  unfold RouterOut.carrier at h
  split at h <;> cases h <;> exact fun _ => rfl

/-- A delegated word is executed by asking its unit. -/
theorem exec_delegate {u : DelegateUnit} {mk : Word → Instr} (h : (RouterOut.delegate u).carrier = some mk) (w : Word)
    (s : State) : exec (mk w) s = .next (s.afterCollab w (Config.collab u w)) := by
  rw [RouterOut.carrier_runsAs h w s, seqWord_delegate]

/-- Under the lenient flags no answer of a collaborator surfaces an error. -/
theorem State.afterCollab_delivers {s : State} (hcont : s.flags.continueOnError = true)
    (hthrow : s.flags.throwOnUnimplemented = false) (w : Word) (d : DecodeResult) :
    ∃ r : Record, s.afterCollab w d = s.delivered r := by
  cases d with
  | ok r =>
    have hpass : ¬(s.flags.throwOnUnimplemented = true ∧ r.mnemonic = .unimplemented) := by simp [hthrow]
    exact ⟨_, if_neg hpass⟩
  | undefined reason => exact ⟨_, if_pos hcont⟩
  | unimplemented k => exact ⟨_, if_neg (by simp [hthrow])⟩
  | unexpected e => exact ⟨_, if_pos hcont⟩

/-- Settles O27: each delegated instruction carries its word to its unit. -/
theorem delegatedWordsFollowTheCollaborator : Obligations.DelegatedWordsFollowTheCollaborator := fun w s =>
  ⟨exec_delegate rfl w s, exec_delegate rfl w s, exec_delegate rfl w s, exec_delegate rfl w s, exec_delegate rfl w s,
    exec_delegate rfl w s, exec_delegate rfl w s⟩

/-- Settles O28, by the cases of the collaborator's answer. -/
theorem delegatedWordsComplete : Obligations.DelegatedWordsComplete := by
  intro w s hcont hthrow
  have delivers : ∀ {u : DelegateUnit} {mk : Word → Instr}, (RouterOut.delegate u).carrier = some mk →
      ∃ r : Record, exec (mk w) s = .next (s.delivered r) := by
    intro u mk h
    obtain ⟨r, hr⟩ := State.afterCollab_delivers hcont hthrow w (Config.collab u w)
    exact ⟨r, (exec_delegate h w s).trans (congrArg _ hr)⟩
  exact ⟨delivers (u := .sve) rfl, delivers (u := .dpi) rfl, delivers (u := .bes) rfl, delivers (u := .dpr) rfl,
    delivers (u := .simd) rfl, delivers (u := .simdLsSingle) rfl, delivers (u := .simdLsSinglePost) rfl⟩

end Sys2Proof.Machine

/-! The register pairs (spec/41_pairs.md R200–R212): a word of the pair format is read by the pair decoder, whose answer
is the cell's record, and an instruction whose word the core gives a record for delivers that record. -/

namespace Sys2Proof.Machine
open Sys2Proof

/-! ### An instruction delivers the record that the core gives for its word -/

/-- A record of the core is a leaf decoder's, so no collaborator and no flag stands between it and step 5 of R91. -/
theorem CoreGives.exec {w : Word} {i : Instr} {r : Record} (h : CoreGives w i r) (s : State) :
    exec i s = .next (s.delivered r) := by
  obtain ⟨hdecode, hdispatch⟩ := h
  have hleaf : r.mnemonic ≠ .unimplemented := (coreLaws_of_dispatch_ok hdispatch).mnemonic.ne (by decide)
  have hrun := decodeWord_runsAs w s
  rwa [hdecode, hdispatch, seqWord_ok s w hleaf] at hrun

/-! ### The words of the pair format (R113) reach `PairDecode` (R170, R171, R173) -/

theorem dispatch_of_isPair {w : Word} (h : isPair w = true) : dispatch w = pairSelect w := by
  obtain ⟨hls, hp⟩ := (isPair_iff w).mp h
  have hmt : ¬(fOp0 w = 0b1101 ∧ fV w = false ∧ fOp2h w = true ∧ fB21 w = true) := fun hc =>
    Bool.false_ne_true ((isMemoryTags_eq_false (by simp [hp])).symm.trans ((isMemoryTags_iff w).mpr ⟨hls, hc⟩))
  obtain ⟨hsimd, hexcl⟩ := fOp0_and_ne (w := w) (by simp [hp])
  have hclass : lsClassify w = pairSelect w := by
    rw [lsClassify, if_neg hsimd, if_neg hmt, if_neg hexcl]
    simp [hp]
  rcases (isLoadStore_iff_fT w).mp hls with ht | ht | ht | ht <;> simp [dispatch, ht, hclass]

section
variable {opc : BitVec 2} {v l : Bool} {mode : MemMode} {imm7 : BitVec 7} {rt2 rn rt : RegIx}

theorem dispatch_encodePair : dispatch (encodePair opc v (pairModeBits mode) l imm7 rt2 rn rt) =
    pairDecode (encodePair opc v (pairModeBits mode) l imm7 rt2 rn rt) mode := by
  rw [dispatch_of_isPair (by simp)]
  cases mode <;> simp [pairSelect, pairModeBits]

/-! ### The record of a pair word (R128, R200) -/

/-- A row of `FAM_PAIR` gives the record its family and, in bits, eight times its scale. -/
theorem pairOut_of_famPair {m : Mnemonic} {f : Family} {scale : Nat} (hfam : famPair opc v m = some (f, 8 * scale)) :
    pairOut m mode opc v imm7 rt2 rn rt = .ok (pairRec m f scale mode imm7 rt2 rn rt) := by
  simp [pairOut, hfam, pairRec, pairOffset_eq, Record.empty]

/-- `PairDecode` on a word of the format, where `m` is the mnemonic it chooses and R128 has a row for it. -/
theorem pairDecode_encodePair {m : Mnemonic} {f : Family} {scale : Nat}
    (hm : pairMnemonic (encodePair opc v (pairModeBits mode) l imm7 rt2 rn rt) = m)
    (hfam : famPair opc v m = some (f, 8 * scale)) :
    pairDecode (encodePair opc v (pairModeBits mode) l imm7 rt2 rn rt) mode =
      .ok (pairRec m f scale mode imm7 rt2 rn rt) := by
  have h11 : opc ≠ 0b11 := by
    rintro rfl
    cases hfam
  rw [pairDecode_eq, hm]
  simp only [fTop2_encodePair, fV_encodePair, fImm7_encodePair, fRt2_encodePair, fRn_encodePair, fRt_encodePair]
  rw [if_neg h11, pairOut_of_famPair hfam]

/-- The well-formed instruction of a pair word, whose first ten bits are `pre`, and the core's record for it. -/
theorem coreGives_of_encodePair {i : Instr} {pre : BitVec 10} {m : Mnemonic} {f : Family} {scale : Nat}
    (hpre : pre = opc ++ 0b101#3 ++ BitVec.ofBool v ++ 0b0#1 ++ pairModeBits mode ++ BitVec.ofBool l)
    (henc : encode i = encodePair opc v (pairModeBits mode) l imm7 rt2 rn rt) (hwf : i.wf = true)
    (hm : pairMnemonic (encodePair opc v (pairModeBits mode) l imm7 rt2 rn rt) = m)
    (hfam : famPair opc v m = some (f, 8 * scale)) :
    CoreGives (pre ++ imm7 ++ rt2 ++ rn ++ rt) i (pairRec m f scale mode imm7 rt2 rn rt) := by
  have hword : pre ++ imm7 ++ rt2 ++ rn ++ rt = encode i := by
    rw [hpre, henc]
    rfl
  rw [hword]
  refine ⟨decodeOfEncode i hwf, ?_⟩
  rw [henc, dispatch_encodePair, pairDecode_encodePair hm hfam]

/-! ### STP and LDP (R201–R206) -/

/-- The fixed bits after `V` as one field: 0, the mode, `L`. -/
theorem pairFixedBits_append (opc : BitVec 2) (v : Bool) (mode : MemMode) (l : Bool) :
    opc ++ 0b101#3 ++ BitVec.ofBool v ++ (0b0#1 ++ pairModeBits mode ++ BitVec.ofBool l) =
      opc ++ 0b101#3 ++ BitVec.ofBool v ++ 0b0#1 ++ pairModeBits mode ++ BitVec.ofBool l := by
  generalize pairModeBits mode = op2
  revert opc v op2 l
  decide

/-- The table below R200 against R128: each of its cells is one of STP and LDP, and has its family and scale there. -/
theorem pairCells_famPair_of_mem_pairRows {f : Family} {scale : Nat} (hrow : (opc, v, f, scale) ∈ pairRows) :
    (opc, v) ∈ pairCells ∧ ∀ m, famPair opc v m = some (f, 8 * scale) := by
  simp only [pairRows, List.mem_cons, Prod.mk.injEq, List.not_mem_nil, or_false] at hrow
  rcases hrow with ⟨rfl, rfl, rfl, rfl⟩ | ⟨rfl, rfl, rfl, rfl⟩ | ⟨rfl, rfl, rfl, rfl⟩ | ⟨rfl, rfl, rfl, rfl⟩ |
    ⟨rfl, rfl, rfl, rfl⟩ <;> exact ⟨by decide, fun _ => rfl⟩

/-- An instruction of one of the five cells, its mnemonic chosen by `L`. -/
theorem coreGives_of_mem_pairRows {i : Instr} {f : Family} {scale : Nat} (hrow : (opc, v, f, scale) ∈ pairRows)
    (henc : encode i = encodePair opc v (pairModeBits mode) l imm7 rt2 rn rt)
    (hwf : i.wf = decide ((opc, v) ∈ pairCells)) :
    CoreGives (opc ++ 0b101#3 ++ BitVec.ofBool v ++ (0b0#1 ++ pairModeBits mode ++ BitVec.ofBool l) ++ imm7 ++ rt2 ++
      rn ++ rt) i (pairRec (if l then .ldp else .stp) f scale mode imm7 rt2 rn rt) := by
  obtain ⟨hcell, hfam⟩ := pairCells_famPair_of_mem_pairRows hrow
  have hplain : ¬(opc = 0b01 ∧ v = false) := ((mem_pairCells_iff opc v).mp hcell).2
  have hm : pairMnemonic (encodePair opc v (pairModeBits mode) l imm7 rt2 rn rt) = if l then .ldp else .stp := by
    rw [pairMnemonic, fTop2_encodePair, fV_encodePair, fL_encodePair, if_neg hplain]
  exact coreGives_of_encodePair (pairFixedBits_append opc v mode l) henc (hwf.trans (decide_eq_true hcell)) hm (hfam _)

end

/-- Settles O1: the five cells with `L = 0`, mode by mode. -/
theorem stpRecords : Obligations.StpRecords := by
  intro opc v f scale hrow imm7 rt2 rn rt s
  have post := coreGives_of_mem_pairRows (mode := .postIndex) (i := .stpPost opc v imm7 rt2 rn rt) hrow rfl rfl
  have offset := coreGives_of_mem_pairRows (mode := .offset) (i := .stpOffset opc v imm7 rt2 rn rt) hrow rfl rfl
  have pre := coreGives_of_mem_pairRows (mode := .preIndex) (i := .stpPre opc v imm7 rt2 rn rt) hrow rfl rfl
  exact ⟨post, post.exec s, offset, offset.exec s, pre, pre.exec s⟩

/-- Settles O2: the five cells with `L = 1`, mode by mode. -/
theorem ldpRecords : Obligations.LdpRecords := by
  intro opc v f scale hrow imm7 rt2 rn rt s
  have post := coreGives_of_mem_pairRows (mode := .postIndex) (i := .ldpPost opc v imm7 rt2 rn rt) hrow rfl rfl
  have offset := coreGives_of_mem_pairRows (mode := .offset) (i := .ldpOffset opc v imm7 rt2 rn rt) hrow rfl rfl
  have pre := coreGives_of_mem_pairRows (mode := .preIndex) (i := .ldpPre opc v imm7 rt2 rn rt) hrow rfl rfl
  exact ⟨post, post.exec s, offset, offset.exec s, pre, pre.exec s⟩

/-! ### STGP and LDPSW, the cell `(01, 0)` (R207–R212) -/

/-- In the cell `(01, 0)` the mnemonic, and with it the row of `FAM_PAIR`, is chosen by `L` (R128, R200). -/
theorem pairMnemonic_encodePair_override {l : Bool} {mode : MemMode} {imm7 : BitVec 7} {rt2 rn rt : RegIx} :
    pairMnemonic (encodePair 0b01 false (pairModeBits mode) l imm7 rt2 rn rt) = if l then .ldpsw else .stgp := by
  simp [pairMnemonic]

/-- Settles O3: the cell with `L = 0`, mode by mode. -/
theorem stgpRecords : Obligations.StgpRecords := by
  intro imm7 rt2 rn rt s
  have hfam : famPair 0b01 false .stgp = some (.W, 8 * 4) := rfl
  have post := coreGives_of_encodePair (i := .stgpPost imm7 rt2 rn rt) (mode := .postIndex) rfl rfl rfl
    pairMnemonic_encodePair_override hfam
  have offset := coreGives_of_encodePair (i := .stgpOffset imm7 rt2 rn rt) (mode := .offset) rfl rfl rfl
    pairMnemonic_encodePair_override hfam
  have pre := coreGives_of_encodePair (i := .stgpPre imm7 rt2 rn rt) (mode := .preIndex) rfl rfl rfl
    pairMnemonic_encodePair_override hfam
  exact ⟨post, post.exec s, offset, offset.exec s, pre, pre.exec s⟩

/-- Settles O4: the cell with `L = 1`, mode by mode. -/
theorem ldpswRecords : Obligations.LdpswRecords := by
  intro imm7 rt2 rn rt s
  have hfam : famPair 0b01 false .ldpsw = some (.D, 8 * 8) := rfl
  have post := coreGives_of_encodePair (i := .ldpswPost imm7 rt2 rn rt) (mode := .postIndex) rfl rfl rfl
    pairMnemonic_encodePair_override hfam
  have offset := coreGives_of_encodePair (i := .ldpswOffset imm7 rt2 rn rt) (mode := .offset) rfl rfl rfl
    pairMnemonic_encodePair_override hfam
  have pre := coreGives_of_encodePair (i := .ldpswPre imm7 rt2 rn rt) (mode := .preIndex) rfl rfl rfl
    pairMnemonic_encodePair_override hfam
  exact ⟨post, post.exec s, offset, offset.exec s, pre, pre.exec s⟩

/-- Settles O59: each word is the encoding of its instruction, which the decoder reads back. -/
theorem specExampleWordsDecode : Obligations.SpecExampleWordsDecode :=
  ⟨decodeOfEncode (.stpPre 0b10 false 0b1111110 30 31 29) rfl,
   decodeOfEncode (.ldpPost 0b10 false 2 30 31 29) rfl,
   decodeOfEncode (.ldrUimm ⟨0b01, 0b11, false⟩ 1 0 1) rfl,
   decodeOfEncode (.stur ⟨0b00, 0b10, false⟩ 0b111111000 1 0) rfl,
   decodeOfEncode (.ldrbRegoff 0 0b010 false 1 0) rfl,
   decodeOfEncode (.delegateBes 0xD503201F#32) rfl,
   decodeOfEncode (.undefReservedGroup 0x00000000#32) rfl⟩

end Sys2Proof.Machine

/-! The unsigned immediate offset (spec/42_ls_unsigned_imm.md R230–R239): a word of the format is read by the
unsigned-immediate decoder, whose answer on a cell of a table below is its row's record. -/

namespace Sys2Proof.Machine
open Sys2Proof

/-! ### The single-register words (R170, R171) reach `RegSelect` -/

theorem dispatch_of_isLoadStore {w : Word} (h : isLoadStore w = true) : dispatch w = lsClassify w := by
  rcases (isLoadStore_iff_fT w).mp h with ht | ht | ht | ht <;> simp [dispatch, ht]

theorem lsClassify_of_fOp0Low_eq_three {w : Word} (h : fOp0Low w = 0b11) : lsClassify w = regSelect w := by
  have hmt : fOp0 w ≠ 0b1101 := by
    rw [fOp0_eq_append, h]
    generalize fTop2 w = top
    revert top
    decide
  obtain ⟨hsimd, hexcl⟩ := fOp0_and_ne (w := w) (by simp [h])
  rw [lsClassify, if_neg hsimd, if_neg fun hc => hmt hc.1, if_neg hexcl]
  simp [h]

theorem dispatch_of_isRegOrAtomic {w : Word} (h : isRegOrAtomic w = true) : dispatch w = regSelect w := by
  obtain ⟨hls, hlow⟩ := (isRegOrAtomic_iff w).mp h
  rw [dispatch_of_isLoadStore hls, lsClassify_of_fOp0Low_eq_three hlow]

section
variable {b : LsOp} {c : Cell} {imm12 : BitVec 12} {rn rt : RegIx}

theorem dispatch_encodeUimm : dispatch (encodeUimm c imm12 rn rt) = uImmDecode (encodeUimm c imm12 rn rt) := by
  rw [dispatch_of_isRegOrAtomic (by simp), regSelect, if_pos (by simp)]

/-! ### The record of an unsigned-immediate word (R119, R122, R230) -/

/-- The offset of R119 is the zero-extended field shifted by the size, the 128-bit cells by their size 0. -/
theorem uimmOffset_eq (imm12 : BitVec 12) (size : BitVec 2) :
    uimmOffset imm12 size = imm12.setWidth 64 <<< size.toNat := by
  rw [uimmOffset, zext_setWidth (by decide)]

/-- `UImmDecode` on a word of the format whose cell `LUT_UIMM` lists for the operation `b`. -/
theorem uImmDecode_encodeUimm (hcell : c ∈ b.cells) : uImmDecode (encodeUimm c imm12 rn rt) =
    .ok (singleRec b.baseName (fam b c) (imm12.setWidth 64 <<< c.size.toNat) .offset rn rt) := by
  rw [uImmDecode, fCell_encodeUimm, (lutUimm_eq_op_iff c b).mpr hcell]
  simp only [fImm12_encodeUimm, fRn_encodeUimm, fRt_encodeUimm, uimmOut_eq, uimmOffset_eq]

/-! ### The cells of each operation -/

/-- The rows of an operation in the form of R231–R239: first ten bits, cell, family and shift. -/
def uimmRows : LsOp → List (BitVec 10 × Cell × Family × Fin 5)
  | .strb => [(0b0011100100, ⟨0b00, 0b00, false⟩, .W, 0)]
  | .strh => [(0b0111100100, ⟨0b00, 0b01, false⟩, .W, 1)]
  | .str => strUimmRows
  | .ldrb => [(0b0011100101, ⟨0b01, 0b00, false⟩, .W, 0)]
  | .ldrh => [(0b0111100101, ⟨0b01, 0b01, false⟩, .W, 1)]
  | .ldr => ldrUimmRows
  | .ldrsb => ldrsbUimmRows
  | .ldrsh => ldrshUimmRows
  | .ldrsw => [(0b1011100110, ⟨0b10, 0b10, false⟩, .X, 2)]

/-- What a row says of its cell: the bits of the format around it (R114), that `LUT_UIMM` lists it for the operation
(R122), its family (R127), and its size as the shift (R119). -/
@[reducible] def UimmRow (b : LsOp) (p : BitVec 10) (c : Cell) (f : Family) (k : Fin 5) : Prop :=
  p = c.size ++ 0b111#3 ++ BitVec.ofBool c.v ++ 0b01#2 ++ c.opc ∧ c ∈ b.cells ∧ fam b c = f ∧ c.size.toNat = k

theorem uimmRow_of_mem {p : BitVec 10} {f : Family} {k : Fin 5} (hrow : (p, c, f, k) ∈ uimmRows b) :
    UimmRow b p c f k := by
  have hrows : ∀ row ∈ uimmRows b, UimmRow b row.1 row.2.1 row.2.2.1 row.2.2.2 := by
    cases b <;> decide
  exact hrows _ hrow

/-- An instruction of a row: its word is read as it, and the core gives the record of the row's family and shift. -/
theorem coreGives_of_mem_uimmRows {i : Instr} {p : BitVec 10} {f : Family} {k : Fin 5}
    (hrow : (p, c, f, k) ∈ uimmRows b) (henc : encode i = encodeUimm c imm12 rn rt)
    (hwf : i.wf = decide (c ∈ b.cells)) :
    CoreGives (p ++ imm12 ++ rn ++ rt) i (singleRec b.baseName f (imm12.setWidth 64 <<< k.val) .offset rn rt) := by
  obtain ⟨hbits, hcell, hfam, hshift⟩ := uimmRow_of_mem hrow
  have hword : p ++ imm12 ++ rn ++ rt = encode i := by
    rw [hbits, henc]
    rfl
  rw [hword]
  refine ⟨decodeOfEncode i (hwf.trans (decide_eq_true hcell)), ?_⟩
  rw [henc, dispatch_encodeUimm, uImmDecode_encodeUimm hcell, hfam, hshift]

end

/-- Settles O5: the cells of STRB, STRH and STR, operation by operation. -/
theorem unsignedImmediateStores : Obligations.UnsignedImmediateStores := by
  intro imm12 rn rt s
  have strb := coreGives_of_mem_uimmRows (b := .strb) (i := .strbUimm imm12 rn rt) List.mem_cons_self rfl rfl
  have strh := coreGives_of_mem_uimmRows (b := .strh) (i := .strhUimm imm12 rn rt) List.mem_cons_self rfl rfl
  refine ⟨strb, strb.exec s, strh, strh.exec s, fun p c f k hrow => ?_⟩
  have str := coreGives_of_mem_uimmRows (b := .str) (i := .strUimm c imm12 rn rt) hrow rfl rfl
  exact ⟨str, str.exec s⟩

/-- Settles O6: the cells of LDRB, LDRH and LDR, operation by operation. -/
theorem unsignedImmediateLoads : Obligations.UnsignedImmediateLoads := by
  intro imm12 rn rt s
  have ldrb := coreGives_of_mem_uimmRows (b := .ldrb) (i := .ldrbUimm imm12 rn rt) List.mem_cons_self rfl rfl
  have ldrh := coreGives_of_mem_uimmRows (b := .ldrh) (i := .ldrhUimm imm12 rn rt) List.mem_cons_self rfl rfl
  refine ⟨ldrb, ldrb.exec s, ldrh, ldrh.exec s, fun p c f k hrow => ?_⟩
  have ldr := coreGives_of_mem_uimmRows (b := .ldr) (i := .ldrUimm c imm12 rn rt) hrow rfl rfl
  exact ⟨ldr, ldr.exec s⟩

/-- Settles O7: the cells of LDRSW, LDRSB and LDRSH, operation by operation. -/
theorem unsignedImmediateSignedLoads : Obligations.UnsignedImmediateSignedLoads := by
  intro imm12 rn rt s
  have ldrsw := coreGives_of_mem_uimmRows (b := .ldrsw) (i := .ldrswUimm imm12 rn rt) List.mem_cons_self rfl rfl
  refine ⟨ldrsw, ldrsw.exec s, fun p c f k hrow => ?_, fun p c f k hrow => ?_⟩
  · have ldrsb := coreGives_of_mem_uimmRows (b := .ldrsb) (i := .ldrsbUimm c imm12 rn rt) hrow rfl rfl
    exact ⟨ldrsb, ldrsb.exec s⟩
  · have ldrsh := coreGives_of_mem_uimmRows (b := .ldrsh) (i := .ldrshUimm c imm12 rn rt) hrow rfl rfl
    exact ⟨ldrsh, ldrsh.exec s⟩

end Sys2Proof.Machine

/-! The register offset (spec/43_ls_register_offset.md R260–R270): a word of the format is read by the register-offset
decoder, whose answer on a cell of a table below is its row's record, the operand as R261's table decodes it. -/

namespace Sys2Proof.Machine
open Sys2Proof

section
variable {b : LsOp} {c : Cell} {rm : RegIx} {option : BitVec 3} {sBit : Bool} {rn rt : RegIx}

/-! ### The words of the register-offset format (R115) reach `RegOffDecode` (R174) -/

theorem dispatch_encodeRegoff :
    dispatch (encodeRegoff c rm option sBit rn rt) = regOffDecode (encodeRegoff c rm option sBit rn rt) := by
  rw [dispatch_of_isRegOrAtomic (by simp)]
  simp [regSelect]

/-- `RegOffDecode` on a word of the format whose cell `LUT_REG` lists for the operation `b` (R260, R261). -/
theorem regOffDecode_encodeRegoff (hcell : c ∈ b.cells) : regOffDecode (encodeRegoff c rm option sBit rn rt) =
    .ok (regoffRec b.baseName (fam b c) (amtSize c) rm option sBit rn rt) := by
  rw [regOffDecode, fCell_encodeRegoff, (lutReg_eq_op_iff c b).mpr hcell]
  simp only [fRm_encodeRegoff, fOption_encodeRegoff, fS_encodeRegoff, fRn_encodeRegoff, fRt_encodeRegoff, regoffOut_eq]

/-! ### The cells of each operation -/

/-- The rows of an operation in the form of R262–R270: first ten bits, cell, family and `amt_size`. -/
def regoffRows : LsOp → List (BitVec 10 × Cell × Family × Fin 5)
  | .strb => [(0b0011100000, ⟨0b00, 0b00, false⟩, .W, 0)]
  | .strh => [(0b0111100000, ⟨0b00, 0b01, false⟩, .W, 1)]
  | .str => strRows
  | .ldrb => [(0b0011100001, ⟨0b01, 0b00, false⟩, .W, 0)]
  | .ldrh => [(0b0111100001, ⟨0b01, 0b01, false⟩, .W, 1)]
  | .ldr => ldrRows
  | .ldrsb => ldrsbRows
  | .ldrsh => ldrshRows
  | .ldrsw => [(0b1011100010, ⟨0b10, 0b10, false⟩, .X, 2)]

/-- What a row says of its cell: the bits of the format around it (R115), that `LUT_REG` lists it for the operation
(R123), its family (R127), and its `amt_size` (R121). -/
@[reducible] def RegoffRow (b : LsOp) (p : BitVec 10) (c : Cell) (f : Family) (k : Fin 5) : Prop :=
  p = c.size ++ 0b111#3 ++ BitVec.ofBool c.v ++ 0b00#2 ++ c.opc ∧ c ∈ b.cells ∧ fam b c = f ∧ amtSize c = k

theorem regoffRow_of_mem {p : BitVec 10} {f : Family} {k : Fin 5} (hrow : (p, c, f, k) ∈ regoffRows b) :
    RegoffRow b p c f k := by
  have hrows : ∀ row ∈ regoffRows b, RegoffRow b row.1 row.2.1 row.2.2.1 row.2.2.2 := by
    cases b <;> decide
  exact hrows _ hrow

/-- An instruction of a row: its word is read as it, and the core gives the record of the row's family and
`amt_size`. -/
theorem coreGives_of_mem_regoffRows {i : Instr} {p : BitVec 10} {f : Family} {k : Fin 5}
    (hrow : (p, c, f, k) ∈ regoffRows b) (henc : encode i = encodeRegoff c rm option sBit rn rt)
    (hwf : i.wf = decide (c ∈ b.cells)) :
    CoreGives (p ++ 0b1#1 ++ rm ++ option ++ BitVec.ofBool sBit ++ 0b10#2 ++ rn ++ rt) i
      (regoffRec b.baseName f k rm option sBit rn rt) := by
  obtain ⟨hbits, hcell, hfam, hamount⟩ := regoffRow_of_mem hrow
  have hword : p ++ 0b1#1 ++ rm ++ option ++ BitVec.ofBool sBit ++ 0b10#2 ++ rn ++ rt = encode i := by
    rw [hbits, henc]
    rfl
  rw [hword]
  refine ⟨decodeOfEncode i (hwf.trans (decide_eq_true hcell)), ?_⟩
  rw [henc, dispatch_encodeRegoff, regOffDecode_encodeRegoff hcell, hfam, hamount]

end

/-- Settles O8: the cells of STRB, STRH and STR, operation by operation. -/
theorem registerOffsetStores : Obligations.RegisterOffsetStores := by
  intro rm option sBit rn rt s
  have strb :=
    coreGives_of_mem_regoffRows (b := .strb) (i := .strbRegoff rm option sBit rn rt) List.mem_cons_self rfl rfl
  have strh :=
    coreGives_of_mem_regoffRows (b := .strh) (i := .strhRegoff rm option sBit rn rt) List.mem_cons_self rfl rfl
  refine ⟨strb, strb.exec s, strh, strh.exec s, fun p c f k hrow => ?_⟩
  have str := coreGives_of_mem_regoffRows (b := .str) (i := .strRegoff c rm option sBit rn rt) hrow rfl rfl
  exact ⟨str, str.exec s⟩

/-- Settles O9: the cells of LDRB, LDRH and LDR, operation by operation. -/
theorem registerOffsetLoads : Obligations.RegisterOffsetLoads := by
  intro rm option sBit rn rt s
  have ldrb :=
    coreGives_of_mem_regoffRows (b := .ldrb) (i := .ldrbRegoff rm option sBit rn rt) List.mem_cons_self rfl rfl
  have ldrh :=
    coreGives_of_mem_regoffRows (b := .ldrh) (i := .ldrhRegoff rm option sBit rn rt) List.mem_cons_self rfl rfl
  refine ⟨ldrb, ldrb.exec s, ldrh, ldrh.exec s, fun p c f k hrow => ?_⟩
  have ldr := coreGives_of_mem_regoffRows (b := .ldr) (i := .ldrRegoff c rm option sBit rn rt) hrow rfl rfl
  exact ⟨ldr, ldr.exec s⟩

/-- Settles O10: the cells of LDRSW, LDRSB and LDRSH, operation by operation. -/
theorem registerOffsetSignedLoads : Obligations.RegisterOffsetSignedLoads := by
  intro rm option sBit rn rt s
  have ldrsw :=
    coreGives_of_mem_regoffRows (b := .ldrsw) (i := .ldrswRegoff rm option sBit rn rt) List.mem_cons_self rfl rfl
  refine ⟨ldrsw, ldrsw.exec s, fun p c f k hrow => ?_, fun p c f k hrow => ?_⟩
  · have ldrsb := coreGives_of_mem_regoffRows (b := .ldrsb) (i := .ldrsbRegoff c rm option sBit rn rt) hrow rfl rfl
    exact ⟨ldrsb, ldrsb.exec s⟩
  · have ldrsh := coreGives_of_mem_regoffRows (b := .ldrsh) (i := .ldrshRegoff c rm option sBit rn rt) hrow rfl rfl
    exact ⟨ldrsh, ldrsh.exec s⟩

end Sys2Proof.Machine

/-! The unscaled immediate offset (spec/44_ls_unscaled.md R290–R299): a word of the format is read by the unscaled
decoder, whose answer on a cell of a table below is its row's record, its mnemonic renamed by R126. -/

namespace Sys2Proof.Machine
open Sys2Proof

section
variable {b : LsOp} {c : Cell} {imm9 : BitVec 9} {rn rt : RegIx}

/-! ### The words of the nine-bit immediate format (R116), which the unscaled and the indexed forms share -/

/-- The offset of R120 is the sign-extended field, which no size scales. -/
theorem imm9Offset_eq (imm9 : BitVec 9) : imm9Offset imm9 = imm9.signExtend 64 := by
  rw [imm9Offset, sext_setWidth (by decide) (by decide)]

/-- The immediate forms have the rows of the register-offset form, of which they use all but the amount. An instruction
of a row is read from its word, and the core's record for its cell is the one of the row's family. -/
theorem coreGives_of_encodeImm9 {i : Instr} {p : BitVec 10} {f : Family} {k : Fin 5} {op4 : BitVec 2} {m : Mnemonic}
    {offset : Imm} {mode : MemMode} (hrow : (p, c, f, k) ∈ regoffRows b) (henc : encode i = encodeImm9 c imm9 op4 rn rt)
    (hwf : i.wf = decide (c ∈ b.cells))
    (hcore : c ∈ b.cells →
      dispatch (encodeImm9 c imm9 op4 rn rt) = .ok (singleRec m (fam b c) offset mode rn rt)) :
    CoreGives (p ++ 0b0#1 ++ imm9 ++ op4 ++ rn ++ rt) i (singleRec m f offset mode rn rt) := by
  obtain ⟨hbits, hcell, hfam, -⟩ := regoffRow_of_mem hrow
  have hword : p ++ 0b0#1 ++ imm9 ++ op4 ++ rn ++ rt = encode i := by
    rw [hbits, henc]
    rfl
  rw [hword]
  refine ⟨decodeOfEncode i (hwf.trans (decide_eq_true hcell)), ?_⟩
  rw [henc, hcore hcell, hfam]

/-! ### The words with `I[11:10] = 00` reach `UnscDecode` (R174, R290) -/

theorem dispatch_encodeUnsc :
    dispatch (encodeImm9 c imm9 0b00 rn rt) = unscDecode (encodeImm9 c imm9 0b00 rn rt) := by
  rw [dispatch_of_isRegOrAtomic (by simp)]
  simp [regSelect]

/-- `UnscDecode` on a word of the format whose cell `LUT_UNSC` lists for the operation `b` (R124, R290). -/
theorem unscDecode_encodeUnsc (hcell : c ∈ b.cells) : unscDecode (encodeImm9 c imm9 0b00 rn rt) =
    .ok (singleRec b.unscaledName (fam b c) (imm9.signExtend 64) .offset rn rt) := by
  rw [unscDecode, fCell_encodeImm9, lutUnsc, (lutUimm_eq_op_iff c b).mpr hcell]
  simp only [fImm9_encodeImm9, fRn_encodeImm9, fRt_encodeImm9, unscOut_eq, imm9Offset_eq]

/-- An instruction of a row: its word is read as it, and the core gives the record of the row's family. -/
theorem coreGives_of_mem_unscRows {i : Instr} {p : BitVec 10} {f : Family} {k : Fin 5}
    (hrow : (p, c, f, k) ∈ regoffRows b) (henc : encode i = encodeImm9 c imm9 0b00 rn rt)
    (hwf : i.wf = decide (c ∈ b.cells)) :
    CoreGives (p ++ 0b0#1 ++ imm9 ++ 0b00#2 ++ rn ++ rt) i
      (singleRec b.unscaledName f (imm9.signExtend 64) .offset rn rt) :=
  coreGives_of_encodeImm9 hrow henc hwf fun hcell => dispatch_encodeUnsc.trans (unscDecode_encodeUnsc hcell)

end

/-- Settles O11: the cells of STURB, STURH and STUR, operation by operation. -/
theorem unscaledStores : Obligations.UnscaledStores := by
  intro imm9 rn rt s
  have sturb := coreGives_of_mem_unscRows (b := .strb) (i := .sturb imm9 rn rt) List.mem_cons_self rfl rfl
  have sturh := coreGives_of_mem_unscRows (b := .strh) (i := .sturh imm9 rn rt) List.mem_cons_self rfl rfl
  refine ⟨sturb, sturb.exec s, sturh, sturh.exec s, fun p c f k hrow => ?_⟩
  have stur := coreGives_of_mem_unscRows (b := .str) (i := .stur c imm9 rn rt) hrow rfl rfl
  exact ⟨stur, stur.exec s⟩

/-- Settles O12: the cells of LDURB, LDURH and LDUR, operation by operation. -/
theorem unscaledLoads : Obligations.UnscaledLoads := by
  intro imm9 rn rt s
  have ldurb := coreGives_of_mem_unscRows (b := .ldrb) (i := .ldurb imm9 rn rt) List.mem_cons_self rfl rfl
  have ldurh := coreGives_of_mem_unscRows (b := .ldrh) (i := .ldurh imm9 rn rt) List.mem_cons_self rfl rfl
  refine ⟨ldurb, ldurb.exec s, ldurh, ldurh.exec s, fun p c f k hrow => ?_⟩
  have ldur := coreGives_of_mem_unscRows (b := .ldr) (i := .ldur c imm9 rn rt) hrow rfl rfl
  exact ⟨ldur, ldur.exec s⟩

/-- Settles O13: the cells of LDURSW, LDURSB and LDURSH, operation by operation. -/
theorem unscaledSignedLoads : Obligations.UnscaledSignedLoads := by
  intro imm9 rn rt s
  have ldursw := coreGives_of_mem_unscRows (b := .ldrsw) (i := .ldursw imm9 rn rt) List.mem_cons_self rfl rfl
  refine ⟨ldursw, ldursw.exec s, fun p c f k hrow => ?_, fun p c f k hrow => ?_⟩
  · have ldursb := coreGives_of_mem_unscRows (b := .ldrsb) (i := .ldursb c imm9 rn rt) hrow rfl rfl
    exact ⟨ldursb, ldursb.exec s⟩
  · have ldursh := coreGives_of_mem_unscRows (b := .ldrsh) (i := .ldursh c imm9 rn rt) hrow rfl rfl
    exact ⟨ldursh, ldursh.exec s⟩

end Sys2Proof.Machine

/-! The indexed forms (spec/45_ls_indexed.md R320–R339): a word of the nine-bit immediate format with `I[11:10] = 01` or
`11` is read by the indexed decoder, whose answer on a cell of a table below is its row's record, in the mode that these
two bits select. -/

namespace Sys2Proof.Machine
open Sys2Proof

section
variable {b : LsOp} {c : Cell} {imm9 : BitVec 9} {op4 : BitVec 2} {mode : MemMode} {rn rt : RegIx}

/-! ### The words with `I[11:10] = 01` and `11` reach `IdxDecode` (R174, R320), each in its mode -/

theorem dispatch_encodePost :
    dispatch (encodeImm9 c imm9 0b01 rn rt) = idxDecode (encodeImm9 c imm9 0b01 rn rt) .postIndex := by
  rw [dispatch_of_isRegOrAtomic (by simp)]
  simp [regSelect]

theorem dispatch_encodePre :
    dispatch (encodeImm9 c imm9 0b11 rn rt) = idxDecode (encodeImm9 c imm9 0b11 rn rt) .preIndex := by
  rw [dispatch_of_isRegOrAtomic (by simp)]
  simp [regSelect]

/-- `IdxDecode` on a word of the format whose cell `LUT_IDX` lists for the operation `b` (R125, R320); the mode comes
from its caller alone. -/
theorem idxDecode_encodeImm9 (hcell : c ∈ b.cells) : idxDecode (encodeImm9 c imm9 op4 rn rt) mode =
    .ok (singleRec b.baseName (fam b c) (imm9.signExtend 64) mode rn rt) := by
  rw [idxDecode, fCell_encodeImm9, (lutIdx_eq_op_iff c b).mpr hcell]
  simp only [fImm9_encodeImm9, fRn_encodeImm9, fRt_encodeImm9, idxOut_eq, imm9Offset_eq]

/-- An instruction of a row, in the mode that the router gives its words: its word is read as it, and the core gives the
record of the row's family in that mode. -/
theorem coreGives_of_mem_idxRows {i : Instr} {p : BitVec 10} {f : Family} {k : Fin 5}
    (hmode : dispatch (encodeImm9 c imm9 op4 rn rt) = idxDecode (encodeImm9 c imm9 op4 rn rt) mode)
    (hrow : (p, c, f, k) ∈ regoffRows b) (henc : encode i = encodeImm9 c imm9 op4 rn rt)
    (hwf : i.wf = decide (c ∈ b.cells)) :
    CoreGives (p ++ 0b0#1 ++ imm9 ++ op4 ++ rn ++ rt) i (singleRec b.baseName f (imm9.signExtend 64) mode rn rt) :=
  coreGives_of_encodeImm9 hrow henc hwf fun hcell => hmode.trans (idxDecode_encodeImm9 hcell)

end

/-! ### Post-indexed (R321–R329) -/

/-- Settles O14: the cells of STRB, STRH and STR, operation by operation. -/
theorem postIndexedStores : Obligations.PostIndexedStores := by
  intro imm9 rn rt s
  have strb :=
    coreGives_of_mem_idxRows (b := .strb) (i := .strbPost imm9 rn rt) dispatch_encodePost List.mem_cons_self rfl rfl
  have strh :=
    coreGives_of_mem_idxRows (b := .strh) (i := .strhPost imm9 rn rt) dispatch_encodePost List.mem_cons_self rfl rfl
  refine ⟨strb, strb.exec s, strh, strh.exec s, fun p c f k hrow => ?_⟩
  have str := coreGives_of_mem_idxRows (b := .str) (i := .strPost c imm9 rn rt) dispatch_encodePost hrow rfl rfl
  exact ⟨str, str.exec s⟩

/-- Settles O15: the cells of LDRB, LDRH and LDR, operation by operation. -/
theorem postIndexedLoads : Obligations.PostIndexedLoads := by
  intro imm9 rn rt s
  have ldrb :=
    coreGives_of_mem_idxRows (b := .ldrb) (i := .ldrbPost imm9 rn rt) dispatch_encodePost List.mem_cons_self rfl rfl
  have ldrh :=
    coreGives_of_mem_idxRows (b := .ldrh) (i := .ldrhPost imm9 rn rt) dispatch_encodePost List.mem_cons_self rfl rfl
  refine ⟨ldrb, ldrb.exec s, ldrh, ldrh.exec s, fun p c f k hrow => ?_⟩
  have ldr := coreGives_of_mem_idxRows (b := .ldr) (i := .ldrPost c imm9 rn rt) dispatch_encodePost hrow rfl rfl
  exact ⟨ldr, ldr.exec s⟩

/-- Settles O16: the cells of LDRSW, LDRSB and LDRSH, operation by operation. -/
theorem postIndexedSignedLoads : Obligations.PostIndexedSignedLoads := by
  intro imm9 rn rt s
  have ldrsw :=
    coreGives_of_mem_idxRows (b := .ldrsw) (i := .ldrswPost imm9 rn rt) dispatch_encodePost List.mem_cons_self rfl rfl
  refine ⟨ldrsw, ldrsw.exec s, fun p c f k hrow => ?_, fun p c f k hrow => ?_⟩
  · have ldrsb := coreGives_of_mem_idxRows (b := .ldrsb) (i := .ldrsbPost c imm9 rn rt) dispatch_encodePost hrow rfl rfl
    exact ⟨ldrsb, ldrsb.exec s⟩
  · have ldrsh := coreGives_of_mem_idxRows (b := .ldrsh) (i := .ldrshPost c imm9 rn rt) dispatch_encodePost hrow rfl rfl
    exact ⟨ldrsh, ldrsh.exec s⟩

/-! ### Pre-indexed (R331–R339) -/

/-- Settles O17: the cells of STRB, STRH and STR, operation by operation. -/
theorem preIndexedStores : Obligations.PreIndexedStores := by
  intro imm9 rn rt s
  have strb :=
    coreGives_of_mem_idxRows (b := .strb) (i := .strbPre imm9 rn rt) dispatch_encodePre List.mem_cons_self rfl rfl
  have strh :=
    coreGives_of_mem_idxRows (b := .strh) (i := .strhPre imm9 rn rt) dispatch_encodePre List.mem_cons_self rfl rfl
  refine ⟨strb, strb.exec s, strh, strh.exec s, fun p c f k hrow => ?_⟩
  have str := coreGives_of_mem_idxRows (b := .str) (i := .strPre c imm9 rn rt) dispatch_encodePre hrow rfl rfl
  exact ⟨str, str.exec s⟩

/-- Settles O18: the cells of LDRB, LDRH and LDR, operation by operation. -/
theorem preIndexedLoads : Obligations.PreIndexedLoads := by
  intro imm9 rn rt s
  have ldrb :=
    coreGives_of_mem_idxRows (b := .ldrb) (i := .ldrbPre imm9 rn rt) dispatch_encodePre List.mem_cons_self rfl rfl
  have ldrh :=
    coreGives_of_mem_idxRows (b := .ldrh) (i := .ldrhPre imm9 rn rt) dispatch_encodePre List.mem_cons_self rfl rfl
  refine ⟨ldrb, ldrb.exec s, ldrh, ldrh.exec s, fun p c f k hrow => ?_⟩
  have ldr := coreGives_of_mem_idxRows (b := .ldr) (i := .ldrPre c imm9 rn rt) dispatch_encodePre hrow rfl rfl
  exact ⟨ldr, ldr.exec s⟩

/-- Settles O19: the cells of LDRSW, LDRSB and LDRSH, operation by operation. -/
theorem preIndexedSignedLoads : Obligations.PreIndexedSignedLoads := by
  intro imm9 rn rt s
  have ldrsw :=
    coreGives_of_mem_idxRows (b := .ldrsw) (i := .ldrswPre imm9 rn rt) dispatch_encodePre List.mem_cons_self rfl rfl
  refine ⟨ldrsw, ldrsw.exec s, fun p c f k hrow => ?_, fun p c f k hrow => ?_⟩
  · have ldrsb := coreGives_of_mem_idxRows (b := .ldrsb) (i := .ldrsbPre c imm9 rn rt) dispatch_encodePre hrow rfl rfl
    exact ⟨ldrsb, ldrsb.exec s⟩
  · have ldrsh := coreGives_of_mem_idxRows (b := .ldrsh) (i := .ldrshPre c imm9 rn rt) dispatch_encodePre hrow rfl rfl
    exact ⟨ldrsh, ldrsh.exec s⟩

end Sys2Proof.Machine

/-! The two kinds of words that carry an error policy (spec/60_exceptions.md R406, R408, R411, R417, R418): an instruction
that runs as an Undefined or Unimplemented answer delivers the inert record or surfaces the error, as the flag says. -/

namespace Sys2Proof.Machine
open Sys2Proof

/-! ### What the policy makes of an answer without a record -/

section
variable {i : Instr} {w : Word} {s : State}

theorem RunsAs.exec_undefined_delivers {reason : UndefReason} (h : RunsAs i w (.undefined reason))
    (hcont : s.flags.continueOnError = true) : exec i s = .next (s.delivered { mnemonic := .invalid }) := by
  rw [h s, seqWord_undefined, if_pos hcont]

theorem RunsAs.exec_undefined_surfaces {reason : UndefReason} (h : RunsAs i w (.undefined reason))
    (hcont : s.flags.continueOnError = false) : exec i s = .next (s.surfaced (.undefined w s.i reason)) := by
  rw [h s, seqWord_undefined, if_neg (by simp [hcont])]

theorem RunsAs.exec_unimplemented_delivers {k : UnimplKind} (h : RunsAs i w (.unimplemented k))
    (hthrow : s.flags.throwOnUnimplemented = false) :
    exec i s = .next (s.delivered { mnemonic := .unimplemented, category := some (.unimpl k) }) := by
  rw [h s, seqWord_unimplemented, if_neg (by simp [hthrow])]

theorem RunsAs.exec_unimplemented_surfaces {k : UnimplKind} (h : RunsAs i w (.unimplemented k))
    (hthrow : s.flags.throwOnUnimplemented = true) :
    exec i s = .next (s.surfaced (.unimplemented w s.i (some (.unimpl k)))) := by
  rw [h s, seqWord_unimplemented, if_pos hthrow]

end

/-! ### The prefetches run as Unimplemented on the words of their formats (R240, R271, R300) -/

theorem prfmUimm_runsAs (imm12 : BitVec 12) (rn rt : RegIx) :
    RunsAs (.prfmUimm imm12 rn rt) (encodeUimm ⟨0b11, 0b10, false⟩ imm12 rn rt) (.unimplemented .prfm) := fun _ => rfl

theorem prfmRegoff_runsAs (c : Cell) (rm : RegIx) (option : BitVec 3) (sBit : Bool) (rn rt : RegIx) :
    RunsAs (.prfmRegoff c rm option sBit rn rt) (encodeRegoff c rm option sBit rn rt) (.unimplemented .prfm) :=
  fun _ => rfl

theorem prfum_runsAs (imm9 : BitVec 9) (rn rt : RegIx) :
    RunsAs (.prfum imm9 rn rt) (encodeImm9 ⟨0b11, 0b10, false⟩ imm9 0b00 rn rt) (.unimplemented .prfum) := fun _ => rfl

/-- The first ten bits of the two PRFM cells of the register-offset format (R115, R271). -/
theorem encodeRegoff_prfm {p : BitVec 10} {c : Cell}
    (h : (p = 0b1111100010#10 ∧ c = ⟨0b10, 0b11, false⟩) ∨ (p = 0b1011100011#10 ∧ c = ⟨0b11, 0b10, false⟩))
    (rm : RegIx) (option : BitVec 3) (sBit : Bool) (rn rt : RegIx) : encodeRegoff c rm option sBit rn rt =
      p ++ 0b1#1 ++ rm ++ option ++ BitVec.ofBool sBit ++ 0b10#2 ++ rn ++ rt := by
  rcases h with ⟨rfl, rfl⟩ | ⟨rfl, rfl⟩ <;> rfl

/-! ### The four obligations, instruction by instruction -/

/-- Settles O23: each Undefined instruction carries its reason, which the policy turns into INVALID_REC. -/
theorem undefinedWordsBecomeInvalidRecords : Obligations.UndefinedWordsBecomeInvalidRecords := by
  intro w s hcont
  have delivers : ∀ {reason : UndefReason} {mk : Word → Instr}, (RouterOut.undefined reason).carrier = some mk →
      exec (mk w) s = .next (s.delivered { mnemonic := .invalid }) := fun h =>
    (RouterOut.carrier_runsAs h w).exec_undefined_delivers hcont
  exact ⟨delivers (reason := .reservedGroup) rfl, delivers (reason := .unallocatedType) rfl,
    delivers (reason := .simdLsStruct) rfl, delivers (reason := .pairOpc11) rfl, delivers (reason := .lsUimmCell) rfl,
    delivers (reason := .lsRegoffCell) rfl, delivers (reason := .lsUnscaledCell) rfl,
    delivers (reason := .lsIndexedCell) rfl⟩

/-- Settles O24: each Undefined instruction carries its reason, which is surfaced. -/
theorem undefinedWordsAreSurfaced : Obligations.UndefinedWordsAreSurfaced := by
  intro w s hcont
  have surfaces : ∀ {reason : UndefReason} {mk : Word → Instr}, (RouterOut.undefined reason).carrier = some mk →
      exec (mk w) s = .next (s.surfaced (.undefined w s.i reason)) := fun h =>
    (RouterOut.carrier_runsAs h w).exec_undefined_surfaces hcont
  exact ⟨surfaces rfl, surfaces rfl, surfaces rfl, surfaces rfl, surfaces rfl, surfaces rfl, surfaces rfl, surfaces rfl⟩

/-- Settles O25: nine kinds are carried with their word, and the prefetches run as their kinds. -/
theorem unimplementedWordsBecomeInertRecords : Obligations.UnimplementedWordsBecomeInertRecords := by
  intro w imm12 imm9 rm option sBit rn rt s hthrow
  have delivers : ∀ {k : UnimplKind} {mk : Word → Instr}, (RouterOut.unimplemented k).carrier = some mk →
      exec (mk w) s = .next (s.delivered { mnemonic := .unimplemented, category := some (.unimpl k) }) := fun h =>
    (RouterOut.carrier_runsAs h w).exec_unimplemented_delivers hthrow
  exact ⟨delivers rfl, delivers rfl, delivers rfl, delivers rfl, delivers rfl, delivers rfl, delivers rfl, delivers rfl,
    delivers rfl, (prfmUimm_runsAs imm12 rn rt).exec_unimplemented_delivers hthrow,
    (prfum_runsAs imm9 rn rt).exec_unimplemented_delivers hthrow,
    fun c => (prfmRegoff_runsAs c rm option sBit rn rt).exec_unimplemented_delivers hthrow⟩

/-- Settles O26: nine kinds are carried with their word, and the prefetches run on the words of their encodings. -/
theorem unimplementedWordsAreSurfaced : Obligations.UnimplementedWordsAreSurfaced := by
  intro w imm12 imm9 rm option sBit rn rt s hthrow
  have surfaces : ∀ {k : UnimplKind} {mk : Word → Instr}, (RouterOut.unimplemented k).carrier = some mk →
      exec (mk w) s = .next (s.surfaced (.unimplemented w s.i (some (.unimpl k)))) := fun h =>
    (RouterOut.carrier_runsAs h w).exec_unimplemented_surfaces hthrow
  refine ⟨surfaces rfl, surfaces rfl, surfaces rfl, surfaces rfl, surfaces rfl, surfaces rfl, surfaces rfl, surfaces rfl,
    surfaces rfl, (prfmUimm_runsAs imm12 rn rt).exec_unimplemented_surfaces hthrow,
    (prfum_runsAs imm9 rn rt).exec_unimplemented_surfaces hthrow, fun p c hcell => ?_⟩
  rw [← encodeRegoff_prfm hcell rm option sBit rn rt]
  exact (prfmRegoff_runsAs c rm option sBit rn rt).exec_unimplemented_surfaces hthrow

end Sys2Proof.Machine

/-! How a call ends (spec/20_memory.md R92, R93; 60_exceptions.md R410–R412, R415; 70_reset_and_hazards.md R455): a running
call moves to its next word or ends, a surfaced error is that of the first failing word, and a failed call stays failed,
with the restart that its error names. -/

namespace Sys2Proof.Machine
open Sys2Proof

/-! ### Every call ends (R415, R455) -/

/-- From the invariant a running call's step ends the call or moves to the next word, which lies in the buffer. -/
theorem State.Inv.step_ends_or_advances {s : State} (h : s.Inv) (hb : s.bufWritten = false) (hr : s.status = .running) :
    ∃ t : State, step s = .next t ∧
      (t.status ≠ .running ∨ (t.status = .running ∧ t.i = s.i + 4 ∧ s.i + 4 ≤ s.mem.len)) := by
  obtain ⟨t, ht⟩ := noStopFromInvariantStates s h hb
  refine ⟨t, ht, ?_⟩
  rcases step_cases s with ⟨_, hx⟩ | ⟨_, hnot, _⟩ | ⟨_, _, _, _, hx⟩ | ⟨_, _, _, _, hx⟩ | ⟨w, _, _, _, _, _, hw, hx⟩ |
    ⟨_, _, _, hx⟩ | ⟨_, _, _, _, _, _, hx⟩
  · cases hx.symm.trans ht
  · exact absurd hr hnot
  · cases hx.symm.trans ht
    exact .inl nofun
  · cases hx.symm.trans ht
    exact .inl nofun
  · rcases exec_cases (decodeWord w) s with ⟨r, hexec, -, -⟩ | ⟨e, hexec⟩
    · cases (hx.trans hexec).symm.trans ht
      exact .inr ⟨hr, rfl, Memory.readWord_some_bound hw⟩
    · cases (hx.trans hexec).symm.trans ht
      exact .inl nofun
  · cases hx.symm.trans ht
  · cases hx.symm.trans ht

/-- Settles O40, by induction on the number of words left: each step ends the call or leaves one word fewer. -/
theorem callsEnd : Obligations.CallsEnd := by
  intro s h hb hr
  induction hk : (s.mem.len - s.i) / 4 using Nat.strong_induction_on generalizing s with
  | h k ih =>
    obtain ⟨t, ht, hend | ⟨hr', hi, hin⟩⟩ := h.step_ends_or_advances hb hr
    · exact ⟨1, by omega, t, run_succ ht 0, hend⟩
    · have hsame := sameCall_of_step ht
      have hleft : (t.mem.len - t.i) / 4 + 1 = k := by
        rw [hsame.mem, hi]
        omega
      obtain ⟨n, hn, u, hu, hend⟩ := ih _ (by omega) t (everyStepKeepsTheCallInvariant s t h ht)
        (hsame.bufWritten.trans hb) hr' rfl
      exact ⟨n + 1, by omega, u, (run_succ ht n).trans hu, hend⟩

/-! ### The first failing word (R410, R411) -/

/-- The four bytes of a word that is read (R81). -/
theorem Memory.readWord_eq_some_iff {m : Memory} {a : Nat} {w : Word} : m.readWord a = some w ↔
    ∃ b0 b1 b2 b3, m.read a = some b0 ∧ m.read (a + 1) = some b1 ∧ m.read (a + 2) = some b2 ∧
      m.read (a + 3) = some b3 ∧ wordOfBytes b0 b1 b2 b3 = w := by
  unfold Memory.readWord
  split <;> simp_all

/-- An error with an offset is that of the trace of the buffer's words, and its offset counts the records before it. -/
theorem seqCall_error_at {bs : List Byte} {va : Addr} {flags : Flags} {e : CallError} {o : Nat}
    (h : seqCall bs va flags = .error e) (ho : e.offset = some o) :
    bs.length % 4 = 0 ∧ (callTrace bs va flags).error = some e ∧ o = 4 * (callTrace bs va flags).records.length := by
  rcases seqCall_error_iff.mp h with ⟨-, rfl⟩ | ⟨hlen, herror⟩
  · cases ho -- the Structural error names no offset
  · exact ⟨hlen, herror, Option.some.inj (ho.symm.trans (seqCall_take_of_failing hlen herror).1)⟩

/-- Settles O45: the words before the offset are those with records, and the word there is the failing one. -/
theorem firstFailingWordEndsTheCall : Obligations.FirstFailingWordEndsTheCall := by
  intro bs va flags e o h ho
  obtain ⟨hlen, herror, rfl⟩ := seqCall_error_at h ho
  obtain ⟨w, hw, hres⟩ := decodeWords_failing herror
  rw [← callTrace, wordsOf_getElem?] at hw
  rw [← callTrace, Nat.zero_add] at hres
  obtain ⟨b0, b1, b2, b3, h0, h1, h2, h3, rfl⟩ := Memory.readWord_eq_some_iff.mp hw
  rw [Memory.read_ofBytes] at h0 h1 h2 h3
  exact ⟨Nat.mul_mod_right 4 _, Memory.readWord_some_bound hw, ⟨_, (seqCall_take_of_failing hlen herror).2⟩,
    b0, b1, b2, b3, h0, h1, h2, h3, hres⟩

/-! ### A failed call stays failed, and its restart (R93, R411, R412) -/

theorem State.SameCall.trans {s t u : State} (h : s.SameCall t) (h' : t.SameCall u) : s.SameCall u :=
  ⟨h'.mem.trans h.mem, h'.va.trans h.va, h'.flags.trans h.flags, h'.shape.trans h.shape,
    h'.bufWritten.trans h.bufWritten⟩

/-- Steps and pulls after the end of a call, in both shapes, change neither its status nor its inputs. -/
theorem run_ended {s : State} (hb : s.bufWritten = false) (hr : s.status ≠ .running) (n : Nat) :
    ∃ t : State, Sys2Proof.core.run n s = .next t ∧ t.status = s.status ∧ s.SameCall t := by
  induction n generalizing s with
  | zero => exact ⟨s, rfl, rfl, rfl, rfl, rfl, rfl, rfl⟩
  | succ n ih =>
    obtain ⟨t, ht, hstatus, hsame⟩ := ih (s := s.afterEnd) hb hr
    exact ⟨t, (run_succ (step_ended hb hr) n).trans ht, hstatus, s.sameCall_afterEnd.trans hsame⟩

/-- A call ahead of a failing word has failed with its error after that word's step and any number of steps more. -/
theorem State.Ahead.run_failed {s : State} {ws : List Word} (h : s.Ahead ws) {e : CallError}
    (herror : (decodeWords s.va s.flags s.i ws).error = some e) {n : Nat}
    (hn : (decodeWords s.va s.flags s.i ws).records.length < n) :
    ∃ t : State, Sys2Proof.core.run n s = .next t ∧ t.status = .failed e ∧ s.SameCall t := by
  obtain ⟨m, rfl⟩ := Nat.exists_eq_add_of_le (Nat.succ_le_of_lt hn)
  have hrun := h.run
  rw [herror] at hrun
  have hsame := (s.sameCall_appendAll (decodeWords s.va s.flags s.i ws).records).trans (State.sameCall_surface _ e)
  obtain ⟨t, ht, hstatus, hsame'⟩ := run_ended (hsame.bufWritten.trans h.unwritten) nofun m
  exact ⟨t, (run_add hrun m).trans ht, hstatus, hsame.trans hsame'⟩

/-- The restart of a state that a call on `bs` has reached and where it failed at the offset `o` (R412). -/
theorem State.restart_of_failed {shape : Shape} {bs : List Byte} {va : Addr} {flags : Flags} {t : State} {e : CallError}
    {o : Nat} (hsame : (State.start shape bs va flags).SameCall t) (hstatus : t.status = .failed e)
    (ho : e.offset = some o) :
    t.restart = some (State.start shape (bs.drop (o + 4)) (va + BitVec.ofNat 64 (o + 4)) flags) := by
  obtain ⟨hmem, hva, hflags, hshape, -⟩ := hsame
  simp [State.restart, hstatus, ho, hmem, hva, hflags, hshape, Memory.bytes_ofBytes]

/-- Settles O47: the run fails at the step of the failing word, and from there on keeps the error and the call's inputs. -/
theorem restartAfterAFailedCall : Obligations.RestartAfterAFailedCall := by
  intro shape bs va flags e o h ho n hn
  obtain ⟨hlen, herror, rfl⟩ := seqCall_error_at h ho
  rw [Nat.mul_div_cancel_left _ (by decide)] at hn
  obtain ⟨t, ht, hstatus, hsame⟩ := (State.start_ahead shape va flags hlen).run_failed herror hn
  exact ⟨t, ht, hstatus, State.restart_of_failed hsame hstatus ho⟩

end Sys2Proof.Machine

/-! Where the invariant of a call begins (spec/10_state.md R54, 70_reset_and_hazards.md R451): the start of a call, of which
reset is one case. -/

namespace Sys2Proof.Machine
open Sys2Proof

/-- Reset is the start of the eager call on the empty buffer at 0 with the default flags (R451, log entry 4). -/
theorem State.reset_eq_start : State.reset = State.start .eager [] 0 {} := rfl

/-- Nothing is decoded yet: `i = 0` and there are no records (R54), over the caller's bytes in canonical form. -/
theorem State.Inv.start (shape : Shape) (bs : List Byte) (va : Addr) (flags : Flags) :
    (State.start shape bs va flags).Inv where
  memWf := Memory.ofBytes_wf bs
  aligned := rfl
  inBuffer := Nat.zero_le _
  checked := fun hi => absurd rfl hi
  oneRecordPerWord := .inl rfl
  addresses := fun _ _ hk => by simp at hk
  preIndexLaw := fun _ _ hk => by simp at hk
  doneAtEnd := fun hd => by simp at hd

/-- Settles O38: reset is the start of one call. -/
theorem startAndResetMeetTheCallInvariant : Obligations.StartAndResetMeetTheCallInvariant :=
  ⟨State.Inv.start, State.reset_eq_start ▸ State.Inv.start .eager [] 0 {}⟩

end Sys2Proof.Machine
